-- ==== Sys2Proof/Word.lean ====
section
/-! DEFINITION. The word types of the DN6410 model. -/
namespace Sys2Proof

/-- One byte of a frame body or of the start image (R205, R207). -/
abbrev Byte := BitVec 8

/-- A position: a value of the 24-bit position counter, in counts of 0.1 mm (R31, R34). -/
abbrev Pos := BitVec 24

/-- A board tag, 0 to 65,535 (R46). Frames give it as two bytes. -/
abbrev Tag := Nat

/-- A product code, 0 to 1,048,575, or NONE (R205). -/
abbrev Product := Option Nat

end Sys2Proof
end

