-- ==== Sys2Proof/Config.lean ====
section
/-! DEFINITION. The free values of the model: what the manual leaves open and the machine still does.
A value here has no body, so no proof can see which one it is; each use reads the next one by the
counter `State.freeCount` (log entries 4, 5 and 6). -/
namespace Sys2Proof

/-- The k-th free choice: which of the orders that the manual allows is taken (R36, R41, and events of
different blocks, 00 'Time'), and whether a RESET pulse of unspecified effect resets (R208). -/
opaque Config.freeChoice : Nat → Nat

end Sys2Proof
end

