-- ==== Sys2Proof/Syntax.lean ====
section
/-! DEFINITION. The commands of the block, one constructor for each row of spec/opcode_table.json, and
the types of their operands. The table gives its rows no operand fields; the operands are the inputs
that the row's rules read (log entry 1). -/
namespace Sys2Proof

/-- The seventeen frame kinds of R3. -/
inductive Kind where
  | alarmRaise | alarmAck | boardOffer | alarmClear | admitted | boardExit | boardNotice
  | boardWithdraw | recipeRequest | recipePage | recipeWithdraw | heatDemand | status
  | snapshot | snapshotReport | profile | restart
  deriving DecidableEq, Repr

/-- What a receiver reads of a frame whose kind is known: the 4-bit source, the 5-bit target
(31 is ALL) and the body (R205). -/
structure Rx where
  src    : BitVec 4
  target : BitVec 5
  body   : List Byte
  deriving DecidableEq, Repr

/-- A frame as its bit fields were read from the wire (R205), with whether the wire carried it whole
up to the last CRC bit (R4). -/
structure RawFrame where
  kind   : BitVec 5
  src    : BitVec 4
  target : BitVec 5
  length : BitVec 7
  body   : List Byte
  crc    : BitVec 16
  whole  : Bool
  deriving DecidableEq, Repr

/-- The three bits of an answer slot as read back; `true` is dominant (R9). -/
structure SlotBits where
  first  : Bool
  second : Bool
  third  : Bool
  deriving DecidableEq, Repr

/-- What an analog input gives at a sample: an open circuit, or a reading in the input's unit. A
reading outside the input's range is judged by the block that takes it (R98, R162, R173, R178). -/
inductive Reading where
  | openCircuit
  | value (v : Int)
  deriving DecidableEq, Repr

/-- Why a cold reset is asked for (R18): the supply has been applied, or is seen lower than it was, each
with the supply in millivolts; or a RESET pulse, with its width in nanoseconds (R208). -/
inductive ResetCause where
  | supplyApplied (mv : Nat)
  | supplyLow (mv : Nat)
  | resetPin (ns : Nat)
  deriving DecidableEq, Repr

/-- The two board sensors (3.3). -/
inductive Sensor where
  | entry
  | exit
  deriving DecidableEq, Repr

/-- The two flux tank switches (R153). -/
inductive TankSwitch where
  | low
  | empty
  deriving DecidableEq, Repr

/-- The commands, in the order of spec/opcode_table.json. -/
inductive Instr where
  /-- COLD_RESET: the cause of the reset. -/
  | coldReset (cause : ResetCause)
  /-- RESET_RELEASE. -/
  | resetRelease
  /-- STRAP_SAMPLE: the strap pins at the sample, STN3 the most significant bit. -/
  | strapSample (straps : BitVec 4)
  /-- START_IMAGE_READ_COMPLETE: what the serial memory held at the first read and at the re-read. -/
  | startImageReadComplete (first second : List Byte)
  /-- CONFIG_FAULT_STATUS_PERIOD. -/
  | configFaultStatusPeriod
  /-- WIRE_FREE_TRANSMIT_START. -/
  | wireFreeTransmitStart
  /-- CONTENTION_LOST. -/
  | contentionLost
  /-- ANSWER_SLOT_READ: the three slot bits. -/
  | answerSlotRead (slot : SlotBits)
  /-- BAD_FRAME: the frame as read from the wire. -/
  | badFrame (f : RawFrame)
  /-- NUMBER_CONFLICT: the frame heard. -/
  | numberConflict (k : Kind) (f : Rx)
  /-- FRAME_NOT_TAKEN: the frame heard. -/
  | frameNotTaken (k : Kind) (f : Rx)
  /-- ALARM_RAISE. -/
  | alarmRaise (f : Rx)
  /-- ALARM_ACK. -/
  | alarmAck (f : Rx)
  /-- ALARM_CLEAR. -/
  | alarmClear (f : Rx)
  /-- BOARD_OFFER. -/
  | boardOffer (f : Rx)
  /-- ADMITTED. -/
  | admitted (f : Rx)
  /-- BOARD_EXIT. -/
  | boardExit (f : Rx)
  /-- BOARD_NOTICE. -/
  | boardNotice (f : Rx)
  /-- BOARD_WITHDRAW. -/
  | boardWithdraw (f : Rx)
  /-- RECIPE_PAGE. -/
  | recipePage (f : Rx)
  /-- RECIPE_WITHDRAW. -/
  | recipeWithdraw (f : Rx)
  /-- HEAT_DEMAND. -/
  | heatDemand (f : Rx)
  /-- STATUS. -/
  | status (f : Rx)
  /-- SNAPSHOT. -/
  | snapshot (f : Rx)
  /-- RESTART. -/
  | restart (f : Rx)
  /-- STATUS_PERIOD. -/
  | statusPeriod
  /-- PEER_STATUS_STALE: the station number of the entry. -/
  | peerStatusStale (n : Nat)
  /-- POWER_ROUND. -/
  | powerRound
  /-- ENCODER_PULSE: the level of the direction input, high for forward. -/
  | encoderPulse (forward : Bool)
  /-- SENSOR_INPUT_CHANGE: which board sensor, and whether its input is now active. -/
  | sensorInputChange (sensor : Sensor) (active : Bool)
  /-- FETCH_TIMER_EXPIRY: the directory entry. -/
  | fetchTimerExpiry (entry : Nat)
  /-- HEAT_SAMPLE: the eight thermocouple inputs. -/
  | heatSample (tc : List Reading)
  /-- IDLE_TIMER_EXPIRY: the channel. -/
  | idleTimerExpiry (ch : Nat)
  /-- BLIND_TIMER_EXPIRY: the channel. -/
  | blindTimerExpiry (ch : Nat)
  /-- ZERO_CROSS. -/
  | zeroCross
  /-- MAINS_MISSING. -/
  | mainsMissing
  /-- NOZZLE_PULSE_END. -/
  | nozzlePulseEnd
  /-- DRAIN_TIMER_EXPIRY. -/
  | drainTimerExpiry
  /-- FLOW_METER_PULSE. -/
  | flowMeterPulse
  /-- TANK_SWITCH_CHANGE: which switch, and whether its input is now active. -/
  | tankSwitchChange (sw : TankSwitch) (active : Bool)
  /-- TANK_SWITCH_TAKEN: which switch. -/
  | tankSwitchTaken (sw : TankSwitch)
  /-- LEVEL_SAMPLE: the level probe. -/
  | levelSample (level : Reading)
  /-- LEVEL_CHECK_DUE. -/
  | levelCheckDue
  /-- LEVEL_UNVERIFIED. -/
  | levelUnverified
  /-- FEED_PULSE_END. -/
  | feedPulseEnd
  /-- MELT_PAUSE_END. -/
  | meltPauseEnd
  /-- FEED_WINDOW_EXPIRY. -/
  | feedWindowExpiry
  /-- FLOW_SAMPLE: the hood flow and the filter pressure. -/
  | flowSample (flow pressure : Reading)
  /-- RISE_DELAY_EXPIRY. -/
  | riseDelayExpiry
  /-- EXTRACTION_LOST. -/
  | extractionLost
  /-- GRACE_TIMER_EXPIRY. -/
  | graceTimerExpiry
  /-- FAN_RUN_INPUT_CHANGE: whether the feedback input is now active. -/
  | fanRunInputChange (active : Bool)
  /-- FAN_NOT_RUNNING. -/
  | fanNotRunning
  /-- ACK_BUTTON_PRESS. -/
  | ackButtonPress
  /-- FRAME_AIMED_AT_OTHER_STATION: the frame heard. -/
  | frameAimedAtOtherStation (k : Kind) (f : Rx)
  /-- ACK_BUTTON_INPUT_CHANGE: whether the button is now pressed. -/
  | ackButtonInputChange (pressed : Bool)
  deriving DecidableEq, Repr

end Sys2Proof
end

