-- ==== Sys2Proof/Machine/FrameLengths.lean ====
section
/-! DEFINITION. The frame kinds' numbers, target forms and body lengths (R3, R206). -/
namespace Sys2Proof

/-- A kind's number, equal to its priority (R2, R3). -/
def Kind.num : Kind → Nat
  | .alarmRaise => 1
  | .alarmAck => 2
  | .boardOffer => 3
  | .alarmClear => 4
  | .admitted => 5
  | .boardExit => 6
  | .boardNotice => 7
  | .boardWithdraw => 8
  | .recipeRequest => 9
  | .recipePage => 10
  | .recipeWithdraw => 11
  | .heatDemand => 12
  | .status => 13
  | .snapshot => 14
  | .snapshotReport => 15
  | .profile => 16
  | .restart => 17

/-- The kind a 5-bit kind field names; 0 and 18 to 31 name none (R205). -/
def Kind.ofNum (n : Nat) : Option Kind :=
  [Kind.alarmRaise, .alarmAck, .boardOffer, .alarmClear, .admitted, .boardExit, .boardNotice,
   .boardWithdraw, .recipeRequest, .recipePage, .recipeWithdraw, .heatDemand, .status, .snapshot,
   .snapshotReport, .profile, .restart].find? (fun k => k.num == n)

/-- Kinds that only the panel may send (R3). -/
def Kind.panelOnly : Kind → Bool
  | .boardNotice | .boardWithdraw | .recipePage | .recipeWithdraw | .snapshot | .restart => true
  | .alarmRaise | .alarmAck | .boardOffer | .alarmClear | .admitted | .boardExit | .recipeRequest
  | .heatDemand | .status | .snapshotReport | .profile => false

/-- The target forms of R3. -/
inductive TargetForm where
  | all
  | one
  | panel
  | allOrOne
  deriving DecidableEq, Repr

/-- The target form of a kind (R3). -/
def Kind.form : Kind → TargetForm
  | .boardOffer | .restart => .one
  | .recipeRequest | .snapshotReport | .profile => .panel
  | .recipePage => .allOrOne
  | .alarmRaise | .alarmAck | .alarmClear | .admitted | .boardExit | .boardNotice | .boardWithdraw
  | .recipeWithdraw | .heatDemand | .status | .snapshot => .all

/-- The body lengths that R206 allows for a kind. -/
def Kind.lengthOk (k : Kind) (n : Nat) : Bool :=
  match k with
  | .alarmRaise => n == 4
  | .alarmAck => n == 1 || n == 2
  | .boardOffer => n == 41
  | .alarmClear => n == 2
  | .admitted => n == 2
  | .boardExit => n == 30
  | .boardNotice => n == 8
  | .boardWithdraw => n == 2
  | .recipeRequest => n == 4
  | .recipePage => n == 72 || n == 16 || n == 9
  | .recipeWithdraw => n == 3
  | .heatDemand => n == 8
  | .status => n == 23
  | .snapshot => n == 1
  | .snapshotReport => n == 35
  | .profile => n == 14 || n == 19 || n == 24 || n == 29 || n == 34 || n == 39
  | .restart => n == 0

end Sys2Proof
end

