-- ==== Sys2Proof/WellFormed.lean ====
section
/-! DEFINITION. Which commands are well formed: operands inside the ranges their rules give. The
meanings do not depend on it; a command with an operand out of range names something the station
does not have, and changes nothing there. -/
namespace Sys2Proof

/-- A heard frame is well formed when its body has a length its kind allows (R4, R206). -/
abbrev Rx.wf (k : Kind) (f : Rx) : Bool := k.lengthOk f.body.length

/-- A command is well formed when every operand lies in the range its rules give. -/
def Instr.wf : Instr → Bool
  | .coldReset _ | .resetRelease | .strapSample _ | .startImageReadComplete _ _
  | .configFaultStatusPeriod | .wireFreeTransmitStart | .contentionLost | .answerSlotRead _ => true
  | .badFrame f => decide (f.body.length ≤ f.length.toNat)
  | .numberConflict k f => f.wf k
  | .frameNotTaken k f => f.wf k
  | .alarmRaise f => f.wf .alarmRaise
  | .alarmAck f => f.wf .alarmAck
  | .alarmClear f => f.wf .alarmClear
  | .boardOffer f => f.wf .boardOffer
  | .admitted f => f.wf .admitted
  | .boardExit f => f.wf .boardExit
  | .boardNotice f => f.wf .boardNotice
  | .boardWithdraw f => f.wf .boardWithdraw
  | .recipePage f => f.wf .recipePage
  | .recipeWithdraw f => f.wf .recipeWithdraw
  | .heatDemand f => f.wf .heatDemand
  | .status f => f.wf .status
  | .snapshot f => f.wf .snapshot
  | .restart f => f.wf .restart
  | .statusPeriod | .powerRound | .encoderPulse _ | .sensorInputChange _ _ => true
  | .peerStatusStale n => decide (n < 16)
  | .fetchTimerExpiry e => decide (e < 32)
  | .heatSample tc => tc.length == 8
  | .idleTimerExpiry ch => decide (ch < 6)
  | .blindTimerExpiry ch => decide (ch < 6)
  | .zeroCross | .mainsMissing | .nozzlePulseEnd | .drainTimerExpiry | .flowMeterPulse
  | .tankSwitchChange _ _ | .tankSwitchTaken _ | .levelSample _ | .levelCheckDue
  | .levelUnverified | .feedPulseEnd | .meltPauseEnd | .feedWindowExpiry | .flowSample _ _
  | .riseDelayExpiry | .extractionLost | .graceTimerExpiry | .fanRunInputChange _
  | .fanNotRunning | .ackButtonPress | .ackButtonInputChange _ => true
  | .frameAimedAtOtherStation k f => f.wf k

end Sys2Proof
end

