-- ==== Sys2Proof/Decode.lean ====
section
/-! DEFINITION. The command that a table word spells. No row of spec/opcode_table.json gives bits
("fields" is empty and there is no "fixed" in every row), so no word spells a command. -/
namespace Sys2Proof

/-- The command spelled by an opcode-table word: none, since the table gives its 56 rows no bits. -/
def decodeTableWord (_nbits _w : Nat) : Option Instr := none

end Sys2Proof
end

