-- ==== Sys2Proof/Machine/Types.lean ====
section
/-! DEFINITION. The types of the blocks' state: the start image as read, and one structure for each
of the eleven blocks (00 'Functional Overview'). Plain data throughout. -/
namespace Sys2Proof.Machine

/-! ### Names shared by several blocks -/

/-- The station states, with the time a cold reset is held (R18, 02). -/
inductive StationState where
  | inReset
  | loading
  | configFault
  | joining
  | running
  deriving DecidableEq, Repr

/-- The answers of R9. -/
inductive Answer where
  | none
  | accept
  | defer
  | refuse
  deriving DecidableEq, Repr

/-- The blocks, as the queuing block of a transmit entry (R7). -/
inductive Block where
  | loader | link | position | tracker | recipes | heat | allotment | flux | pot | extraction | alarms
  deriving DecidableEq, Repr

/-- The function set of a station (R15, R207). -/
structure Functions where
  entry : Bool
  flux  : Bool
  heat  : Bool
  pot   : Bool
  hood  : Bool
  fan   : Bool
  deriving DecidableEq, Repr

/-! ### Recipe pages (R76) -/

/-- HEAT page contents: the pot setpoint and the setpoints of machine zones 1 to 16 (R76). -/
structure HeatPage where
  pot    : Nat
  top    : List Nat
  bottom : List Nat
  deriving DecidableEq, Repr

/-- FLUX page contents (R76). -/
structure FluxPage where
  mask      : BitVec 8
  lead      : Nat
  tail      : Nat
  pitch     : Nat
  pulse     : Nat
  nominal   : Nat
  tolerance : Nat
  deriving DecidableEq, Repr

/-- WAVE page contents (R76). -/
structure WavePage where
  chip   : Nat
  main   : Nat
  enable : Bool
  deriving DecidableEq, Repr

/-- One page's contents (R76, R79). -/
inductive Page where
  | heat (p : HeatPage)
  | flux (p : FluxPage)
  | wave (p : WavePage)
  deriving DecidableEq, Repr

/-- The page kinds (R76). -/
inductive PageKind where
  | heat
  | flux
  | wave
  deriving DecidableEq, Repr

/-! ### The start image (R207) -/

/-- A zone of the image: offsets and machine zone number, 0 when unused (R207). -/
structure Zone where
  start   : Nat
  stop    : Nat
  machine : Nat
  deriving DecidableEq, Repr

/-- Channel functions (R97). -/
inductive ChFunction where
  | unused
  | preheatTop
  | preheatBottom
  | pot
  deriving DecidableEq, Repr

/-- The configuration of a heat channel (R97). -/
structure ChannelCfg where
  fn        : ChFunction
  zone      : Nat
  primary   : Nat
  secondary : Option Nat
  rated     : Nat
  kp        : Nat
  ki        : Nat
  limit     : Nat
  setback   : Nat
  deriving DecidableEq, Repr

/-- The parameters of a settle detector (R108). -/
structure DetParams where
  tight   : Nat
  relaxed : Nat
  n       : Nat
  k       : Nat
  deriving DecidableEq, Repr

/-- The assumed loads of one station number (R207, offset 14). -/
structure AssumedLoad where
  class0 : Nat
  class1 : Nat
  hood   : Nat
  deriving DecidableEq, Repr

/-- A point of the fan curve (R183). -/
structure CurvePoint where
  flow      : Nat
  reference : Nat
  deriving DecidableEq, Repr

/-- Flux and wave plans of a service entry (R82); `none` is OFF or IDLE. -/
inductive Plan where
  | none
  | default
  | inherit
  deriving DecidableEq, Repr

/-- A service entry (R82). `heatDefault` is heat plan DEFAULT; otherwise TRANSPARENT. -/
structure ServiceEntry where
  flux        : Plan
  wave        : Plan
  heatDefault : Bool
  profiling   : Bool
  deriving DecidableEq, Repr

/-- The travel parameters of the image (R207, offsets 110 to 165). -/
structure Geometry where
  exitDistance : Nat
  gap          : Nat
  arrivalTol   : Nat
  exitTol      : Nat
  lengthTol    : Nat
  gateDistance : Nat
  minSpacing   : Nat
  debounce     : Nat
  zones        : List Zone
  fluxPos      : Nat
  wavePos      : Nat
  raiseLead    : Nat
  lowerLag     : Nat
  deriving DecidableEq, Repr

/-- The pot parameters of the image (09). -/
structure PotCfg where
  idleGrade : Nat
  high      : Nat
  low       : Nat
  lowLow    : Nat
  feedOn    : Nat
  feedOff   : Nat
  feedPulse : Nat
  meltPause : Nat
  budget    : Nat
  deriving DecidableEq, Repr

/-- The extraction parameters of the image (10). -/
structure FumeCfg where
  hoodMax     : Nat
  baseFlow    : Nat
  vapourAdd   : Nat
  riseDelay   : Nat
  graceTime   : Nat
  filterWarn  : Nat
  filterBlock : Nat
  curve       : List CurvePoint
  deriving DecidableEq, Repr

/-- The start image copy: every field of the layout of R207. -/
structure Image where
  tag         : Nat
  length      : Nat
  revision    : Nat
  functions   : Functions
  rate        : Nat
  panel       : Nat
  upstream    : Option Nat
  downstream  : Option Nat
  members     : BitVec 16
  cover       : Nat
  assumed     : List AssumedLoad
  geometry    : Geometry
  channels    : List ChannelCfg
  heatDet     : DetParams
  fumeDet     : DetParams
  guardStep   : Nat
  idleTime    : Nat
  pot         : PotCfg
  fume        : FumeCfg
  mask        : BitVec 64
  hornLevel   : Nat
  services    : List ServiceEntry
  heatPage    : HeatPage
  fluxPage    : FluxPage
  wavePage    : WavePage
  supplyLimit : Nat
  roundPeriod : Nat
  deriving DecidableEq, Repr

/-! ### Boards (R46, R51) -/

/-- A recipe reference (R80). -/
inductive Ref where
  | entry (i : Nat)
  | default
  | service (n : Nat)
  | unentered (product : Nat)
  deriving DecidableEq, Repr

/-- A resolution status (R81). -/
inductive Resolution where
  | resolved
  | fetching
  | defaulted
  deriving DecidableEq, Repr

/-- Board record states (R51). -/
inductive RecordState where
  | inbound
  | entering
  | inside
  | offered
  | blocked
  | finishing
  deriving DecidableEq, Repr

/-- A board exception: code, qualifier and station (R53). -/
structure BoardException where
  code      : Nat
  qualifier : Nat
  station   : Nat
  deriving DecidableEq, Repr

/-- A board record (R51). `stray` is origin STRAY. -/
structure BoardRecord where
  tag        : Tag
  product    : Product
  stray      : Bool
  length     : Nat
  lead       : Option Pos
  trail      : Option Pos
  state      : RecordState
  ref        : Ref
  volume     : Option Nat
  exceptions : List BoardException
  overflow   : Bool
  deriving DecidableEq, Repr

/-- An entry of the expected list (R46). -/
structure Expected where
  tag      : Tag
  product  : Product
  length   : Nat
  admitted : Bool
  ref      : Ref
  deriving DecidableEq, Repr

/-- The blockers of R55. -/
structure Blockers where
  joining    : Bool
  heat       : Bool
  recipe     : Bool
  level      : Bool
  extraction : Bool
  flux       : Bool
  alarm      : Bool
  deriving DecidableEq, Repr

/-- The causes of BOARD EXIT; `done` is outcome DONE, the rest outcome LOST (R73). -/
inductive ExitCause where
  | done
  | arrivalDeadline
  | exitDeadline
  | refused
  | leftUnaccepted
  deriving DecidableEq, Repr

/-! ### Level and settle detector -/

/-- Level states (R166). -/
inductive LevelState where
  | high
  | normal
  | low
  | lowLow
  deriving DecidableEq, Repr

/-- Settle detector states (R108, R109). -/
inductive DetPhase where
  | unsettled
  | confirming
  | settled
  deriving DecidableEq, Repr

/-- A settle detector instance (6.5). -/
structure Detector where
  phase : DetPhase
  run   : Nat
  deriving DecidableEq, Repr

/-! ### Frames of the station (R206) -/

/-- The fields of STATUS (R15). -/
structure StatusFields where
  station        : StationState
  functions      : Functions
  admitFlag      : Bool
  readyFor       : Product
  blockers       : Blockers
  hold           : Bool
  queueCount     : Nat
  expectedCount  : Nat
  highest        : Option Nat
  pendingCount   : Nat
  requiredFlow   : Nat
  hoodMax        : Nat
  measuredFlow   : Nat
  proven         : Bool
  listIncomplete : Bool
  discard        : Nat
  badCount       : Nat
  startMark      : Bool
  deriving DecidableEq, Repr

/-- The values a snapshot latches (R44). An absent field is `none`. -/
structure Snapshot where
  number  : Nat
  counter : Pos
  temps   : List (Option Int)
  duties  : List Nat
  quiet   : Option (Nat × LevelState)
  flow    : Option Nat
  deriving DecidableEq, Repr

/-- A channel entry of PROFILE (R120). -/
structure ProfileChannel where
  ch       : Nat
  fn       : ChFunction
  measured : Int
  good     : Bool
  deriving DecidableEq, Repr

/-- The contents of PROFILE (R120). `enter` is event ENTER. -/
structure Profile where
  tag      : Tag
  enter    : Bool
  zone     : Nat
  machine  : Nat
  counter  : Pos
  channels : List ProfileChannel
  deriving DecidableEq, Repr

/-- The bodies of the frames a station sends, by kind (R3, R206). -/
inductive Body where
  | alarmRaise (code level : Nat) (inService gone : Bool)
  | alarmAck (origin : Nat) (code : Option Nat)
  | boardOffer (r : BoardRecord) (status : Resolution)
  | alarmClear (code : Nat) (gone : Bool)
  | admitted (tag : Tag)
  | boardExit (r : BoardRecord) (cause : ExitCause)
  | recipeRequest (product : Nat) (heat flux wave : Bool)
  | heatDemand (d0 d1 m0 m1 : Nat)
  | status (f : StatusFields)
  | snapshotReport (s : Snapshot)
  | profile (p : Profile)
  deriving DecidableEq, Repr

/-- An entry of the transmit queue (R7). `orphan` marks a frame whose answer goes to no block (R17). -/
structure TxEntry where
  body   : Body
  target : BitVec 5
  block  : Block
  inTx   : Bool
  orphan : Bool
  deriving DecidableEq, Repr

/-! ### The blocks -/

/-- The Image Loader (02). -/
structure Loader where
  station    : StationState
  number     : Option Nat
  strapPrev  : Option (BitVec 4)
  image      : Option Image
  imageOk    : Bool
  roundCount : Nat
  deriving DecidableEq, Repr

/-- The input pins, held as the levels last seen (R208); `supply` is in millivolts. -/
structure Pins where
  supply    : Nat
  straps    : BitVec 4
  entry     : Bool
  exitS     : Bool
  tankLow   : Bool
  tankEmpty : Bool
  fanRun    : Bool
  ack       : Bool
  tc        : List Reading
  level     : Reading
  flow      : Reading
  pressure  : Reading
  deriving DecidableEq, Repr

/-- A heard entry of the peer status table (R16). -/
structure Peer where
  status : StatusFields
  age    : Nat
  deriving DecidableEq, Repr

/-- The Link Controller (01). -/
structure Link where
  queue        : List TxEntry
  answer       : Answer
  isolation    : Nat
  badCount     : Nat
  discard      : Nat
  peers        : List (Option Peer)
  statusAge    : Option Nat
  offersDropped : List Tag
  deriving DecidableEq, Repr

/-- The debounce of one board sensor (R35). -/
structure SensorState where
  active  : Bool
  pending : Option Pos
  deriving DecidableEq, Repr

/-- Event kinds (R37). -/
inductive EventKind where
  | arrivalDeadline
  | exitDeadline
  | zoneEnter
  | zoneLeave
  | fluxStart
  | fluxStroke
  | fluxEnd
  | waveRaise
  | waveLower
  deriving DecidableEq, Repr

/-- An entry of the event schedule (R37); the qualifier is 0 where the kind has none. -/
structure Event where
  tag       : Tag
  kind      : EventKind
  qualifier : Nat
  due       : Pos
  deriving DecidableEq, Repr

/-- The Position Unit (03). -/
structure PosUnit where
  counter  : Pos
  tally    : Nat
  entryS   : SensorState
  exitS    : SensorState
  schedule : List Event
  snapshot : Option Snapshot
  deriving DecidableEq, Repr

/-- The handoff state (R65). -/
structure Handoff where
  bound       : Option Tag
  outstanding : Bool
  trailSeen   : Bool
  last        : Option Answer
  deriving DecidableEq, Repr

/-- The Board Tracker (04). `gate` holds the tag of the record made at opening while OPEN (R57, R71). -/
structure Tracker where
  expected  : List Expected
  queue     : List BoardRecord
  gate      : Option Tag
  spacing   : Option Pos
  handoff   : Handoff
  admitFlag : Bool
  blockers  : Blockers
  lastLocal : Nat
  deriving DecidableEq, Repr

/-- Fetch states (R78). -/
inductive FetchState where
  | complete
  | fetching
  | failed
  deriving DecidableEq, Repr

/-- A resident page of a directory entry: its slot and revision (R78). -/
structure Resident where
  slot     : Nat
  revision : Nat
  deriving DecidableEq, Repr

/-- An occupied directory entry (R78), with its fetch timer in ms while it runs (R83). -/
structure DirEntry where
  product : Nat
  live    : Bool
  fetch   : FetchState
  heat    : Option Resident
  flux    : Option Resident
  wave    : Option Resident
  used    : Bool
  count   : Nat
  timer   : Option Nat
  deriving DecidableEq, Repr

/-- The Recipe Store (05). A slot that holds nothing is on the free list (R79). -/
structure RecipeStore where
  dir   : List (Option DirEntry)
  slots : List (Option Page)
  hand  : Nat
  deriving DecidableEq, Repr

/-- Channel modes (R102). -/
inductive Mode where
  | idle
  | regulating
  | blind
  | tripped
  | faulted
  deriving DecidableEq, Repr

/-- The idle timer of a channel (R105): not running, running for some ms, or run out. -/
inductive IdleTimer where
  | off
  | running (ms : Nat)
  | done
  deriving DecidableEq, Repr

/-- A channel record (06). -/
structure Channel where
  mode      : Mode
  secondary : Bool
  refd      : Bool
  faultRun  : Nat
  goodRun   : Nat
  measured  : Int
  lastGood  : Bool
  lost      : Bool
  trip      : Bool
  fault     : Bool
  history   : List Nat
  held      : Nat
  blind     : Option Nat
  governing : Option Tag
  setpoint  : Nat
  idle      : IdleTimer
  guarded   : Bool
  det       : Detector
  heldFlag  : Bool
  armed     : Bool
  unsettled : Nat
  limited   : Nat
  iacc      : Nat
  limUp     : Bool
  limDown   : Bool
  uc        : Nat
  duty      : Nat
  acc       : Nat
  firing    : Bool
  cool      : Bool
  deriving DecidableEq, Repr

/-- What a zone note holds of one channel (R117). -/
structure NoteChannel where
  ch        : Nat
  unsettled : Nat
  limited   : Nat
  heldFlag  : Bool
  deriving DecidableEq, Repr

/-- A zone note (R117). -/
structure ZoneNote where
  tag      : Tag
  zone     : Nat
  channels : List NoteChannel
  deriving DecidableEq, Repr

/-- The Heat Channels block (06). -/
structure Heat where
  channels     : List Channel
  notes        : List ZoneNote
  mainsMissing : Bool
  mainsAge     : Nat
  sampleAge    : Option Nat
  deriving DecidableEq, Repr

/-- A heard entry of the demand view (R129). -/
structure Demand where
  d0  : Nat
  d1  : Nat
  m0  : Nat
  m1  : Nat
  age : Nat
  deriving DecidableEq, Repr

/-- The Allotment Unit (07). -/
structure Allot where
  view     : List (Option Demand)
  g0       : Nat
  g1       : Nat
  caps     : List Nat
  short    : Nat
  roundAge : Option Nat
  deriving DecidableEq, Repr

/-- The series record (R139). `drain` is absent while OPEN and the drain timer while DRAINING. -/
structure Series where
  tag       : Tag
  drain     : Option Nat
  mask      : BitVec 8
  pulse     : Nat
  nominal   : Nat
  tolerance : Nat
  heldPitch : Option Nat
  fired     : Nat
  flow      : Nat
  deriving DecidableEq, Repr

/-- A tank switch: its taken level and the running 1 s hold of the opposite level (R153). -/
structure Tank where
  taken : Option Bool
  hold  : Option Nat
  deriving DecidableEq, Repr

/-- The Flux Controller (08). -/
structure Flux where
  series   : Option Series
  nozzle   : Option Nat
  handled  : List Tag
  noFlow   : Nat
  supplyOk : Bool
  low      : Tank
  empty    : Tank
  deriving DecidableEq, Repr

/-- An entry of the raised set (R156). -/
structure Raised where
  tag    : Tag
  chip   : Nat
  main   : Nat
  enable : Bool
  deriving DecidableEq, Repr

/-- Feeder phases with their timers (R167). -/
inductive FeedPhase where
  | ready
  | pulse (ms : Nat)
  | pause (ms : Nat)
  deriving DecidableEq, Repr

/-- The Pot Controller (09). `check` holds the quiet samples taken since a level check became due. -/
structure Pot where
  raised    : List Raised
  quiet     : Nat
  ring      : List Nat
  avg       : Option Nat
  level     : Option LevelState
  age       : Nat
  check     : Option Nat
  feed      : FeedPhase
  feedRun   : Bool
  budget    : Nat
  window    : Nat
  runaway   : Bool
  sampleAge : Option Nat
  deriving DecidableEq, Repr

/-- The Extraction Monitor (10). -/
structure Fume where
  measured  : Nat
  required  : Nat
  target    : Nat
  rise      : Option Nat
  det       : Detector
  lost      : Nat
  filter    : Nat
  loaded    : Bool
  blocked   : Bool
  adopted   : Bool
  grace     : Option Nat
  graceZero : Bool
  fanSum    : Nat
  fanRef    : Nat
  feedback  : Nat
  sampleAge : Option Nat
  deriving DecidableEq, Repr

/-- Where one of the station's codes stands (R190); a pending code carries its gone mark (R193). -/
inductive Place where
  | idle
  | request
  | pending (gone : Bool)
  | inService
  deriving DecidableEq, Repr

/-- An entry of the line alarm list (R199). -/
structure LineEntry where
  origin    : Nat
  code      : Nat
  level     : Nat
  inService : Bool
  gone      : Bool
  deriving DecidableEq, Repr

/-- The debounce of the ACK button (R201): released for some ms, held pressed for some ms after a
release long enough, or pressed with nothing left to take. -/
inductive AckPhase where
  | released (ms : Nat)
  | held (ms : Nat)
  | spent
  deriving DecidableEq, Repr

/-- The Alarm Controller (11). -/
structure AlarmUnit where
  place      : List Place
  flags      : List Bool
  rot        : List Nat
  list       : List LineEntry
  incomplete : Bool
  ack        : AckPhase
  deriving DecidableEq, Repr

/-- The timers that another command of the same millisecond may restart before their own expiry is
taken: the status period (R15), the rise delay timer (R175), and the level age at the check age and at
the stale time (R164, R165). -/
inductive OwnTimer where
  | statusPeriod
  | riseDelay
  | levelCheck
  | levelStale
  deriving DecidableEq, Repr

/-- The MODEL's own record of the expiries that the station's own time has put in the queue (log entry
3): those of a timer that still stands at its limit, and those of a timer restarted since. -/
structure Expiries where
  queued : List OwnTimer
  lapsed : List OwnTimer
  deriving DecidableEq, Repr

end Sys2Proof.Machine
end

