-- ==== Sys2Proof/Machine/ColdValues.lean ====
section
/-! DEFINITION. The value each block takes at cold reset (R17, R33, R43, R45, R75, R96, R123, R137,
R154, R171, R186, R203). Values that come from the image are formed from the image given; before an
image is read that is the blank image, whose every field is 0 (log entry 27). -/
namespace Sys2Proof.Machine

/-- The image with every field 0 or empty, standing where none has been read yet. -/
def Image.blank : Image where
  tag := 0
  length := 0
  revision := 0
  functions := ⟨false, false, false, false, false, false⟩
  rate := 0
  panel := 0
  upstream := none
  downstream := none
  members := 0
  cover := 0
  assumed := List.replicate 16 ⟨0, 0, 0⟩
  geometry := ⟨0, 0, 0, 0, 0, 0, 0, 0, List.replicate 4 ⟨0, 0, 0⟩, 0, 0, 0, 0⟩
  channels := List.replicate 6 ⟨.unused, 0, 0, none, 0, 0, 0, 0, 0⟩
  heatDet := ⟨0, 0, 0, 0⟩
  fumeDet := ⟨0, 0, 0, 0⟩
  guardStep := 0
  idleTime := 0
  pot := ⟨0, 0, 0, 0, 0, 0, 0, 0, 0⟩
  fume := ⟨0, 0, 0, 0, 0, 0, 0, List.replicate 8 ⟨0, 0⟩⟩
  mask := 0
  hornLevel := 0
  services := List.replicate 16 ⟨.none, .none, false, false⟩
  heatPage := ⟨0, List.replicate 16 0, List.replicate 16 0⟩
  fluxPage := ⟨0, 0, 0, 0, 0, 0, 0⟩
  wavePage := ⟨0, 0, false⟩
  supplyLimit := 0
  roundPeriod := 0

/-- The empty blocker set (R75). -/
def Blockers.empty : Blockers := ⟨false, false, false, false, false, false, false⟩

/-- A detector after each reset (R111). -/
def Detector.cold : Detector := ⟨.unsettled, 0⟩

/-- The Link Controller at cold reset (R17). -/
def Link.cold : Link where
  queue := []
  answer := .none
  isolation := 0
  badCount := 0
  discard := 0
  peers := List.replicate 16 none
  statusAge := none
  offersDropped := []

/-- The Position Unit at cold reset (R33, R43, R45). -/
def PosUnit.cold : PosUnit where
  counter := 0
  tally := 0
  entryS := ⟨false, none⟩
  exitS := ⟨false, none⟩
  schedule := []
  snapshot := none

/-- The empty handoff state (R65, R75). -/
def Handoff.clear : Handoff := ⟨none, false, false, none⟩

/-- The Board Tracker at cold reset (R75): the first stray takes 65,280. -/
def Tracker.cold : Tracker where
  expected := []
  queue := []
  gate := none
  spacing := none
  handoff := Handoff.clear
  admitFlag := false
  blockers := Blockers.empty
  lastLocal := 65535

/-- The Recipe Store at cold reset (R96). -/
def RecipeStore.cold : RecipeStore where
  dir := List.replicate 32 none
  slots := List.replicate 64 none
  hand := 0

/-- A channel at cold reset and at a warm restart (R123, R124). That the latest sample was not good, and
that no board governs, before any sample is the model's choice (DESIGN CHOICE, log entry 7). So is that a warm
restart clears the channel's own record of a cool sample, `cool`, and reports nothing (log entry 44). -/
def Channel.cold (c : ChannelCfg) : Channel where
  mode := .idle
  secondary := false
  refd := false
  faultRun := 0
  goodRun := 0
  measured := 0
  lastGood := false
  lost := false
  trip := false
  fault := false
  history := List.replicate 64 0
  held := 0
  blind := none
  governing := none
  setpoint := c.setback
  idle := .off
  guarded := false
  det := Detector.cold
  heldFlag := false
  armed := true
  unsettled := 0
  limited := 0
  iacc := 0
  limUp := false
  limDown := false
  uc := 0
  duty := 0
  acc := 0
  firing := false
  cool := false

/-- The Heat Channels at cold reset (R123). -/
def Heat.cold (img : Image) : Heat where
  channels := img.channels.map Channel.cold
  notes := []
  mainsMissing := true
  mainsAge := 0
  sampleAge := none

/-- The Allotment Unit at cold reset (R137). -/
def Allot.cold : Allot where
  view := List.replicate 16 none
  g0 := 0
  g1 := 0
  caps := List.replicate 6 0
  short := 0
  roundAge := none

/-- The Flux Controller at cold reset (R154). -/
def Flux.cold : Flux where
  series := none
  nozzle := none
  handled := []
  noFlow := 0
  supplyOk := false
  low := ⟨none, none⟩
  empty := ⟨none, none⟩

/-- The Pot Controller at cold reset (R171). -/
def Pot.cold (img : Image) : Pot where
  raised := []
  quiet := 0
  ring := []
  avg := none
  level := none
  age := 0
  check := none
  feed := .ready
  feedRun := false
  budget := img.pot.budget
  window := 0
  runaway := false
  sampleAge := none

/-- The Extraction Monitor at cold reset (R186). With a filter warn level of 0 the reading of 0 is at that level;
DESIGN CHOICE: FILTER LOADED does not hold from entry to JOINING, but from the first sample (log entry 55). -/
def Fume.cold (img : Image) : Fume where
  measured := 0
  required := min img.fume.hoodMax img.fume.baseFlow
  target := min img.fume.hoodMax img.fume.baseFlow
  rise := none
  det := Detector.cold
  lost := 0
  filter := 0
  loaded := false
  blocked := false
  adopted := false
  grace := none
  graceZero := false
  fanSum := 0
  fanRef := 0
  feedback := 0
  sampleAge := none

/-- The Alarm Controller at cold reset (R203). -/
def AlarmUnit.cold : AlarmUnit where
  place := List.replicate 64 .idle
  flags := List.replicate 64 false
  rot := List.replicate 8 0
  list := []
  incomplete := false
  ack := .released 0

/-- The Image Loader with the station held in reset or just released into LOADING (R18, R19). -/
def Loader.cold (st : StationState) : Loader where
  station := st
  number := none
  strapPrev := none
  image := none
  imageOk := false
  roundCount := 0

/-- The input pins when nothing has been seen of them: open straps read as 15 (R19), switch inputs
inactive, analog inputs open, the supply at its nominal 3.3 V (DESIGN CHOICE, log entry 7). -/
def Pins.cold : Pins where
  supply := 3300
  straps := 15
  entry := false
  exitS := false
  tankLow := false
  tankEmpty := false
  fanRun := false
  ack := false
  tc := List.replicate 8 .openCircuit
  level := .openCircuit
  flow := .openCircuit
  pressure := .openCircuit

end Sys2Proof.Machine
end

