-- ==== Sys2Proof/Machine/State.lean ====
section
/-! DEFINITION. The station's state, the two reasons a step may stop, and the state after reset. -/
namespace Sys2Proof.Machine

/-- The faults of the machine: none. Every command of the spec has an effect in every state, so no
meaning raises a fault (INVENTORY, 'Faults'); safe. -/
inductive Fault where
  deriving DecidableEq, Repr

/-- The refusals of the machine. -/
inductive Refusal where
  /-- Raised by an arm of `exec` whose command has no meaning yet; safe. No arm raises it now. -/
  | notModelled (mnemonic : String)
  deriving DecidableEq, Repr

/-- The state of the station: the eleven blocks, the input pins, the model's count of free values
read and its record of timer expiries (log entry 3), and the commands waiting, first in first out. -/
structure State where
  loader    : Loader
  pins      : Pins
  link      : Link
  pos       : PosUnit
  board     : Tracker
  recipe    : RecipeStore
  heat      : Heat
  allot     : Allot
  flux      : Flux
  pot       : Pot
  fume      : Fume
  alarm     : AlarmUnit
  freeCount : Nat
  expiries  : Expiries
  pending   : List Instr
  deriving DecidableEq, Repr

/-- The machine right after reset: RESET has just been released and the station has entered LOADING,
every block at its cold-reset values (R18; log entry 7 for the values the spec leaves open). -/
def State.reset : State where
  loader := Loader.cold .loading
  pins := Pins.cold
  link := Link.cold
  pos := PosUnit.cold
  board := Tracker.cold
  recipe := RecipeStore.cold
  heat := Heat.cold Image.blank
  allot := Allot.cold
  flux := Flux.cold
  pot := Pot.cold Image.blank
  fume := Fume.cold Image.blank
  alarm := AlarmUnit.cold
  freeCount := 0
  expiries := ⟨[], []⟩
  pending := []

end Sys2Proof.Machine
end

