-- ==== Sys2Proof/Machine/Operands.lean ====
section
/-! DEFINITION. How commands' operands are read: byte fields of frame bodies and of the image (R205,
R206), the bodies of received frames, analog readings, and the station's parameters. -/
namespace Sys2Proof.Machine

/-! ### Parameters and station state -/

/-- The station's image copy, or the blank image before one is read (R20). -/
def State.cfg (s : State) : Image := s.loader.image.getD Image.blank

/-- The station number (R19); 0 before one is taken, when nothing reads it. -/
def State.me (s : State) : Nat := s.loader.number.getD 0

/-- The station is in JOINING or RUNNING. -/
def State.active (s : State) : Bool :=
  s.loader.station == .joining || s.loader.station == .running

/-- The station is in RUNNING. -/
def State.running (s : State) : Bool := s.loader.station == .running

/-- Station number n is in the member set (R207). -/
def Image.member (c : Image) (n : Nat) : Bool := c.members.getLsbD n

/-- The configuration of channel k; a channel that does not exist has function NONE. -/
def Image.channel (c : Image) (k : Nat) : ChannelCfg :=
  c.channels.getD k ⟨.unused, 0, 0, none, 0, 0, 0, 0, 0⟩

/-- The zone of index z; one that does not exist has machine zone number 0. -/
def Image.zone (c : Image) (z : Nat) : Zone := c.geometry.zones.getD z ⟨0, 0, 0⟩

/-- Service entry n (R82). -/
def Image.service (c : Image) (n : Nat) : ServiceEntry :=
  c.services.getD n ⟨.none, .none, false, false⟩

/-- Whether the channel's function is a preheat function. -/
def ChFunction.preheat : ChFunction → Bool
  | .preheatTop | .preheatBottom => true
  | .unused | .pot => false

/-- The channel numbers whose function is not NONE, in order (R97). -/
def Image.usedChannels (c : Image) : List Nat :=
  (List.range 6).filter fun k => (c.channel k).fn != .unused

/-! ### Byte fields -/

/-- The byte at offset i, 0 past the end. -/
def byteAt (b : List Byte) (i : Nat) : Nat := (b.getD i 0).toNat

/-- The n-byte field at offset i, most significant byte first (R205). -/
def field (b : List Byte) (i : Nat) : Nat → Nat
  | 0 => 0
  | n + 1 => field b i n * 256 + byteAt b (i + n)

/-- A flag byte: 0, or other than 0 read as 1 (R206). -/
def flagAt (b : List Byte) (i : Nat) : Bool := byteAt b i != 0

/-- A product field: above 1,048,575 it is read as NONE (R206). -/
def productAt (b : List Byte) (i : Nat) : Product :=
  if field b i 3 ≤ 1048575 then some (field b i 3) else none

/-- A product code is one of the 16 service codes (R81). -/
def isServiceCode (p : Nat) : Bool := decide (1048560 ≤ p) && decide (p ≤ 1048575)

/-- A station-number field: 0 to 15, or NONE (R205). -/
def stationAt (b : List Byte) (i : Nat) : Option Nat :=
  if byteAt b i ≤ 15 then some (byteAt b i) else none

/-- A functions byte (R206). -/
def functionsAt (b : List Byte) (i : Nat) : Functions where
  entry := (byteAt b i).testBit 0
  flux := (byteAt b i).testBit 1
  heat := (byteAt b i).testBit 2
  pot := (byteAt b i).testBit 3
  hood := (byteAt b i).testBit 4
  fan := (byteAt b i).testBit 5

/-! ### Bodies of received frames (R206) -/

/-- The exceptions of a board record or exit: `count` slots from offset i (R206). -/
def exceptionsAt (b : List Byte) (i count : Nat) : List BoardException :=
  (List.range count).map fun j =>
    ⟨byteAt b (i + 3 * j), byteAt b (i + 3 * j + 1), byteAt b (i + 3 * j + 2)⟩

/-- The record that an accepted BOARD OFFER makes, before its product is resolved: tag, product,
origin, length, flux volume, exceptions and overflow from the body; lead, trail and state its own
(R51, R70). An exception count above 6 is read as 6 with overflow set (R206). -/
def offerRecord (b : List Byte) : BoardRecord where
  tag := field b 0 2
  product := productAt b 2
  stray := flagAt b 5
  length := field b 6 3
  lead := none
  trail := none
  state := .inbound
  ref := .default
  volume := if (byteAt b 9).testBit 2 then some (field b 20 2) else none
  exceptions := exceptionsAt b 23 (min (byteAt b 22) 6)
  overflow := (byteAt b 9).testBit 3 || decide (6 < byteAt b 22)

/-- The station state of STATUS: RUNNING for 3, JOINING for 2, else CONFIG FAULT (R206). -/
def statusStation (n : Nat) : StationState :=
  if n == 3 then .running else if n == 2 then .joining else .configFault

/-- A blocker byte (R206). -/
def blockersAt (b : List Byte) (i : Nat) : Blockers where
  joining := (byteAt b i).testBit 0
  heat := (byteAt b i).testBit 1
  recipe := (byteAt b i).testBit 2
  level := (byteAt b i).testBit 3
  extraction := (byteAt b i).testBit 4
  flux := (byteAt b i).testBit 5
  alarm := (byteAt b i).testBit 6

/-- The fields of a received STATUS, values outside their encoding read as R206 says. -/
def statusBody (b : List Byte) : StatusFields where
  station := statusStation (byteAt b 0)
  functions := functionsAt b 1
  admitFlag := flagAt b 2
  readyFor := productAt b 3
  blockers := blockersAt b 6
  hold := flagAt b 7
  queueCount := byteAt b 8
  expectedCount := byteAt b 9
  highest := if 1 ≤ byteAt b 10 ∧ byteAt b 10 ≤ 7 then some (byteAt b 10) else none
  pendingCount := min (byteAt b 11) 7
  requiredFlow := min (field b 12 2) 2000
  hoodMax := min (field b 14 2) 2000
  measuredFlow := min (field b 16 2) 2000
  proven := flagAt b 18
  listIncomplete := flagAt b 19
  discard := byteAt b 20
  badCount := byteAt b 21
  startMark := flagAt b 22

/-- HEAT page contents at offset i (R206, R207). -/
def heatPageAt (b : List Byte) (i : Nat) : HeatPage where
  pot := field b i 2
  top := (List.range 16).map fun z => field b (i + 2 + 2 * z) 2
  bottom := (List.range 16).map fun z => field b (i + 34 + 2 * z) 2

/-- FLUX page contents at offset i. -/
def fluxPageAt (b : List Byte) (i : Nat) : FluxPage where
  mask := BitVec.ofNat 8 (byteAt b i)
  lead := field b (i + 1) 2
  tail := field b (i + 3) 2
  pitch := field b (i + 5) 2
  pulse := byteAt b (i + 7)
  nominal := byteAt b (i + 8)
  tolerance := byteAt b (i + 9)

/-- WAVE page contents at offset i. -/
def wavePageAt (b : List Byte) (i : Nat) : WavePage where
  chip := byteAt b i
  main := byteAt b (i + 1)
  enable := flagAt b (i + 2)

/-- The HEAT ranges of R76. -/
def HeatPage.inRange (p : HeatPage) : Bool :=
  decide (p.pot ≤ 4000) && p.top.all (fun t => decide (t ≤ 4000))
    && p.bottom.all (fun t => decide (t ≤ 4000))

/-- The FLUX ranges of R76. -/
def FluxPage.inRange (p : FluxPage) : Bool :=
  decide (p.lead ≤ 1000) && decide (p.tail ≤ 1000) && decide (20 ≤ p.pitch)
    && decide (p.pitch ≤ 2000) && decide (5 ≤ p.pulse) && decide (p.pulse ≤ 200)
    && decide (1 ≤ p.nominal) && decide (p.tolerance ≤ 50)

/-- The page that a RECIPE PAGE body carries, when its kind byte names the kind its length gives and
its contents lie in the ranges of R76 (R89, R206). A chip enable other than 0 or 1 lies outside
them (log entry 14). -/
def recipePageBody (b : List Byte) : Option Page :=
  if b.length == 72 && byteAt b 3 == 1 then
    if (heatPageAt b 6).inRange then some (.heat (heatPageAt b 6)) else none
  else if b.length == 16 && byteAt b 3 == 2 then
    if (fluxPageAt b 6).inRange then some (.flux (fluxPageAt b 6)) else none
  else if b.length == 9 && byteAt b 3 == 3 then
    if byteAt b 8 ≤ 1 then some (.wave (wavePageAt b 6)) else none
  else none

/-- The kind of a page. -/
def Page.kind : Page → PageKind
  | .heat _ => .heat
  | .flux _ => .flux
  | .wave _ => .wave

/-! ### Readings and slot bits -/

/-- A reading within a range, or none for an open circuit or a reading out of it (R162, R173, R178). -/
def readingWithin (r : Reading) (hi : Nat) : Option Nat :=
  match r with
  | .openCircuit => none
  | .value v => if 0 ≤ v ∧ v ≤ (hi : Int) then some v.toNat else none

/-- The answer a sender reads from the three slot bits (R9). -/
def slotAnswer (b : SlotBits) : Answer :=
  if b.third then .refuse else if b.second then .defer else if b.first then .accept else .none

/-- The slot bits that a receiver drives for its answer: from the first bit on, one for ACCEPT, two for DEFER,
all three for REFUSE, and none where it does not answer (R9). -/
def Answer.slotBits : Answer → SlotBits
  | .none => ⟨false, false, false⟩
  | .accept => ⟨true, false, false⟩
  | .defer => ⟨true, true, false⟩
  | .refuse => ⟨true, true, true⟩

/-- The slot when the receivers of a frame give these answers: a bit is dominant where any of them drives it
(R1, R9). -/
def slotOf (answers : List Answer) : SlotBits where
  first := answers.any fun a => a.slotBits.first
  second := answers.any fun a => a.slotBits.second
  third := answers.any fun a => a.slotBits.third

/-! ### Target fields -/

/-- The target value for ALL (R205). -/
def allTarget : BitVec 5 := 31

/-- The target value of one station. -/
def toStation (n : Nat) : BitVec 5 := BitVec.ofNat 5 n

end Sys2Proof.Machine
end

