-- ==== Sys2Proof/Machine/Formats.lean ====
section
/-! DEFINITION. The frame check and the bodies the station sends, byte by byte (12.1, 12.2). -/
namespace Sys2Proof.Machine

/-! ### CRC-16 (R205) -/

/-- One bit through the CRC register, generator x^16 + x^12 + x^5 + 1 (R205). -/
def crcBit (reg : BitVec 16) (bit : Bool) : BitVec 16 :=
  if reg.msb != bit then (reg <<< 1) ^^^ 0x1021#16 else reg <<< 1

/-- The low w bits of n, most significant first. -/
def bitsOf : Nat → Nat → List Bool
  | 0, _ => []
  | w + 1, n => n.testBit w :: bitsOf w n

/-- The CRC-16 over a run of bits; the register starts at 65,535 (R205). -/
def crcOf (bits : List Bool) : BitVec 16 := bits.foldl crcBit 0xFFFF#16

/-- The bits of a list of bytes, each most significant bit first. -/
def bytesBits (b : List Byte) : List Bool := b.flatMap fun x => bitsOf 8 x.toNat

/-- The bits a frame's CRC covers: kind, source, target, length and body, in wire order (R205). -/
def frameCovered (f : RawFrame) : List Bool :=
  bitsOf 5 f.kind.toNat ++ bitsOf 4 f.src.toNat ++ bitsOf 5 f.target.toNat
    ++ bitsOf 7 f.length.toNat ++ bytesBits f.body

/-- The kind of a frame that passes every check of R4, and none for a bad frame. -/
def frameCheck (f : RawFrame) : Option Kind :=
  match Kind.ofNum f.kind.toNat with
  | none => none
  | some k =>
    if decide (f.length.toNat ≤ 72) && k.lengthOk f.length.toNat && f.body.length == f.length.toNat
        && crcOf (frameCovered f) == f.crc && f.whole then some k else none

/-! ### Bodies of the frames a station sends (R206) -/

/-- n as w bytes, most significant first (R205). -/
def beBytes : Nat → Nat → List Byte
  | 0, _ => []
  | w + 1, n => BitVec.ofNat 8 (n / 256 ^ w) :: beBytes w n

/-- A signed value as two's-complement bytes (R205). -/
def signedBytes (w : Nat) (v : Int) : List Byte := beBytes w (v % ((256 ^ w : Nat) : Int)).toNat

/-- A product field; NONE is 16,777,215 (R205). -/
def productBytes : Product → List Byte
  | none => beBytes 3 16777215
  | some p => beBytes 3 p

/-- A set or flags byte from its bits, bit 0 first. The spec gives the bits that a layout names nothing for no
value: DESIGN CHOICE, they are sent as 0 (log entry 52). -/
def packBits : List Bool → Nat
  | [] => 0
  | b :: bs => b.toNat + 2 * packBits bs

/-- One byte. -/
def byte1 (n : Nat) : List Byte := beBytes 1 n

/-- The six exception slots; slots past the count are 0 (R206). -/
def exceptionSlots (es : List BoardException) : List Byte :=
  ((es.take 6).flatMap fun e => byte1 e.code ++ byte1 e.qualifier ++ byte1 e.station)
    ++ List.replicate (18 - 3 * min es.length 6) 0

/-- A position field. The spec does not state what an absent one is sent as: DESIGN CHOICE, 0 (log entry 46). -/
def posBytes (p : Option Pos) : List Byte := beBytes 3 ((p.map BitVec.toNat).getD 0)

/-- Record state codes (R206). -/
def RecordState.code : RecordState → Nat
  | .inbound => 1
  | .entering => 2
  | .inside => 3
  | .offered => 4
  | .blocked => 5
  | .finishing => 6

/-- Reference form codes (R206). -/
def Ref.form : Ref → Nat
  | .entry _ => 0
  | .default => 1
  | .service _ => 2
  | .unentered _ => 3

/-- The directory entry or service number of a reference, otherwise 0 (R206). -/
def Ref.number : Ref → Nat
  | .entry i => i
  | .service n => n
  | .default | .unentered _ => 0

/-- Resolution status codes (R206). -/
def Resolution.code : Resolution → Nat
  | .resolved => 1
  | .fetching => 2
  | .defaulted => 3

/-- Exit cause codes; 0 is none (R206). -/
def ExitCause.code : ExitCause → Nat
  | .done => 0
  | .arrivalDeadline => 1
  | .exitDeadline => 2
  | .refused => 3
  | .leftUnaccepted => 4

/-- Station state codes of STATUS (R206). -/
def StationState.code : StationState → Nat
  | .configFault => 1
  | .joining => 2
  | .running => 3
  | .inReset | .loading => 0

/-- Channel function codes of the image (R207). -/
def ChFunction.code : ChFunction → Nat
  | .unused => 0
  | .preheatTop => 1
  | .preheatBottom => 2
  | .pot => 3

/-- Level state codes of SNAPSHOT REPORT (12.2). -/
def LevelState.code : LevelState → Nat
  | .high => 1
  | .normal => 2
  | .low => 3
  | .lowLow => 4

/-- The functions byte (R206). -/
def Functions.byte (f : Functions) : Nat := packBits [f.entry, f.flux, f.heat, f.pot, f.hood, f.fan]

/-- The blockers byte (R206). -/
def Blockers.byte (b : Blockers) : Nat :=
  packBits [b.joining, b.heat, b.recipe, b.level, b.extraction, b.flux, b.alarm]

/-- A board record as BOARD OFFER carries it (R206). The spec does not state what a lead, trail or flux volume
with its flag clear is sent as: DESIGN CHOICE, 0 (log entry 46); so are flag bits 4 to 7 (log entry 52). -/
def offerBytes (r : BoardRecord) (st : Resolution) : List Byte :=
  beBytes 2 r.tag ++ productBytes r.product ++ byte1 r.stray.toNat ++ beBytes 3 r.length
    ++ byte1 (packBits [r.lead.isSome, r.trail.isSome, r.volume.isSome, r.overflow])
    ++ posBytes r.lead ++ posBytes r.trail ++ byte1 r.state.code ++ byte1 r.ref.form
    ++ byte1 r.ref.number ++ byte1 st.code ++ beBytes 2 (r.volume.getD 0)
    ++ byte1 r.exceptions.length ++ exceptionSlots r.exceptions

/-- The body of BOARD EXIT (R73, R206); an absent flux volume is sent as 0 (DESIGN CHOICE, log entry 46), and so
are flag bits 0, 1 and 4 to 7 (DESIGN CHOICE, log entry 52). -/
def exitBytes (r : BoardRecord) (c : ExitCause) : List Byte :=
  beBytes 2 r.tag ++ productBytes r.product ++ byte1 r.stray.toNat
    ++ byte1 (if c = .done then 1 else 2) ++ byte1 c.code
    ++ byte1 (packBits [false, false, r.volume.isSome, r.overflow]) ++ beBytes 2 (r.volume.getD 0)
    ++ byte1 r.exceptions.length ++ exceptionSlots r.exceptions

/-- The body of STATUS (R15, R206). -/
def statusBytes (f : StatusFields) : List Byte :=
  byte1 f.station.code ++ byte1 f.functions.byte ++ byte1 f.admitFlag.toNat
    ++ productBytes f.readyFor ++ byte1 f.blockers.byte ++ byte1 f.hold.toNat
    ++ byte1 f.queueCount ++ byte1 f.expectedCount ++ byte1 (f.highest.getD 255)
    ++ byte1 f.pendingCount ++ beBytes 2 f.requiredFlow ++ beBytes 2 f.hoodMax
    ++ beBytes 2 f.measuredFlow ++ byte1 f.proven.toNat ++ byte1 f.listIncomplete.toNat
    ++ byte1 f.discard ++ byte1 f.badCount ++ byte1 f.startMark.toNat

/-- The body of SNAPSHOT REPORT (R44, 12.2). -/
def snapshotBytes (s : Snapshot) : List Byte :=
  byte1 s.number ++ beBytes 3 s.counter.toNat
    ++ ((List.range 6).flatMap fun k =>
      signedBytes 2 ((s.temps.getD k none).getD 0) ++ beBytes 2 (s.duties.getD k 0))
    ++ beBytes 2 (packBits ((List.range 6).map (fun k => (s.temps.getD k none).isSome)
      ++ [s.quiet.isSome, s.flow.isSome]))
    ++ beBytes 2 ((s.quiet.map (·.1)).getD 0) ++ byte1 ((s.quiet.map (·.2.code)).getD 0)
    ++ beBytes 2 (s.flow.getD 0)

/-- The body of PROFILE (R120, 12.2). -/
def profileBytes (p : Profile) : List Byte :=
  beBytes 2 p.tag ++ byte1 (if p.enter then 1 else 2) ++ byte1 p.zone ++ byte1 p.machine
    ++ beBytes 3 p.counter.toNat ++ byte1 p.channels.length
    ++ p.channels.flatMap fun c =>
      byte1 c.ch ++ byte1 c.fn.code ++ signedBytes 2 c.measured ++ byte1 c.good.toNat

/-- The kind of a body. -/
def Body.kind : Body → Kind
  | .alarmRaise .. => .alarmRaise
  | .alarmAck .. => .alarmAck
  | .boardOffer .. => .boardOffer
  | .alarmClear .. => .alarmClear
  | .admitted .. => .admitted
  | .boardExit .. => .boardExit
  | .recipeRequest .. => .recipeRequest
  | .heatDemand .. => .heatDemand
  | .status .. => .status
  | .snapshotReport .. => .snapshotReport
  | .profile .. => .profile

/-- A body as it goes on the wire (R206). -/
def Body.bytes : Body → List Byte
  | .alarmRaise code level inService gone =>
    byte1 code ++ byte1 level ++ byte1 (if inService then 2 else 1) ++ byte1 gone.toNat
  | .alarmAck origin none => byte1 origin
  | .alarmAck origin (some code) => byte1 origin ++ byte1 code
  | .boardOffer r st => offerBytes r st
  | .alarmClear code gone => byte1 code ++ byte1 (if gone then 2 else 1)
  | .admitted tag => beBytes 2 tag
  | .boardExit r c => exitBytes r c
  | .recipeRequest p h f w => beBytes 3 p ++ byte1 (packBits [h, f, w])
  | .heatDemand d0 d1 m0 m1 => beBytes 2 d0 ++ beBytes 2 d1 ++ beBytes 2 m0 ++ beBytes 2 m1
  | .status f => statusBytes f
  | .snapshotReport s => snapshotBytes s
  | .profile p => profileBytes p

/-- A frame of the station as it goes on the wire, with the CRC its sender forms (R205). -/
def TxEntry.frame (e : TxEntry) (me : Nat) : RawFrame :=
  let f : RawFrame :=
    { kind := BitVec.ofNat 5 e.body.kind.num, src := BitVec.ofNat 4 me, target := e.target
      length := BitVec.ofNat 7 e.body.bytes.length, body := e.body.bytes, crc := 0, whole := true }
  { f with crc := crcOf (frameCovered f) }

/-- The key of an entry: every frame of this station has one source, so its kind's number (R2, R7). -/
def TxEntry.key (e : TxEntry) : Nat := e.body.kind.num

end Sys2Proof.Machine
end

