-- ==== Sys2Proof/Machine/ImageCheck.lean ====
section
/-! DEFINITION. Reading and checking the start image (R20, R21, R22, R207). -/
namespace Sys2Proof.Machine

/-- What the loader clocks in from address 0: n bytes; a memory that does not answer gives all ones
(R20). -/
def clockIn (mem : List Byte) (n : Nat) : List Byte := (List.range n).map fun i => mem.getD i 0xFF#8

/-- lo ≤ n ≤ hi. -/
def inLimits (lo n hi : Nat) : Bool := decide (lo ≤ n) && decide (n ≤ hi)

/-- Check 1: the format tag (R21, R207). -/
def tagOk (b : List Byte) : Bool := field b 0 2 == 18742

/-- Check 2: the length (R21, R207). -/
def lengthOk (b : List Byte) : Bool := inLimits 466 (field b 2 2) 1536

/-- Check 3: the CRC-16 over offsets 0 to length - 3 against the trailer (R207). -/
def crcOk (b : List Byte) : Bool :=
  crcOf (bytesBits (b.take (b.length - 2))) == BitVec.ofNat 16 (field b (b.length - 2) 2)

/-- One reading of the memory: the header, then, when checks 1 and 2 pass, the whole image (R20). -/
def readCopy (mem : List Byte) : Option (List Byte) :=
  let header := clockIn mem 6
  if tagOk header && lengthOk header then some (clockIn mem (field header 2 2)) else none

/-- The copy that passes its CRC: the first, or after one re-read the second (R20). -/
def readImage (first second : List Byte) : Option (List Byte) :=
  match readCopy first with
  | none => none
  | some b =>
    if crcOk b then some b
    else
      match readCopy second with
      | none => none
      | some c => if crcOk c then some c else none

/-! ### Check 4: the limits of R207, in table order -/

/-- A number of 0 to 15, or 255 for NONE. -/
def numberOrNone (n : Nat) : Bool := decide (n ≤ 15) || n == 255

/-- How many stations the member set holds. -/
def memberCount (m : BitVec 16) : Nat := ((List.range 16).filter fun n => m.getLsbD n).length

/-- The limits of a zone; one whose machine zone number is 0 is not checked. -/
def zoneLimits (b : List Byte) (z : Nat) : Bool :=
  let o := 128 + 7 * z
  byteAt b (o + 6) == 0 ||
    (inLimits 1 (byteAt b (o + 6)) 16 && decide (field b o 3 < field b (o + 3) 3)
      && decide (field b (o + 3) 3 ≤ 200000))

/-- The limits of a channel; one whose function is NONE is not checked. -/
def channelLimits (b : List Byte) (k : Nat) : Bool :=
  let o := 166 + 11 * k
  byteAt b o == 0 ||
    (inLimits 1 (byteAt b o) 3 && decide (byteAt b (o + 1) ≤ 3)
      && byteAt b (128 + 7 * byteAt b (o + 1) + 6) != 0 && decide (byteAt b (o + 2) ≤ 7)
      && (byteAt b (o + 3) == 255
        || (decide (byteAt b (o + 3) ≤ 7) && byteAt b (o + 3) != byteAt b (o + 2)))
      && inLimits 1 (byteAt b (o + 4)) 80 && decide (field b (o + 7) 2 ≤ 6500)
      && decide (field b (o + 9) 2 ≤ 4000))

/-- The limits of a detector's parameters at offset o. -/
def detLimits (b : List Byte) (o hi : Nat) : Bool :=
  decide (field b o 2 ≤ field b (o + 2) 2) && decide (field b (o + 2) 2 ≤ hi)
    && inLimits 1 (byteAt b (o + 4)) 255 && inLimits 1 (byteAt b (o + 5)) 255

/-- The assumed loads of a member; those of other station numbers are not checked. -/
def assumedLimits (b : List Byte) (n : Nat) : Bool :=
  let o := 14 + 6 * n
  !(field b 11 2).testBit n ||
    (decide (field b o 2 ≤ 480) && decide (field b (o + 2) 2 ≤ 480)
      && decide (field b (o + 4) 2 ≤ 2000))

/-- The limits of a service entry. -/
def serviceLimits (b : List Byte) (n : Nat) : Bool :=
  let o := 317 + 4 * n
  decide (byteAt b o ≤ 2) && decide (byteAt b (o + 1) ≤ 2) && decide (byteAt b (o + 2) ≤ 1)
    && decide (byteAt b (o + 3) ≤ 1)

/-- A point of the fan curve, and its flow above the one before. -/
def curveLimits (b : List Byte) (i : Nat) : Bool :=
  let o := 276 + 4 * i
  decide (field b o 2 ≤ 32000) && decide (field b (o + 2) 2 ≤ 1000)
    && (i == 0 || decide (field b (o - 4) 2 < field b o 2))

/-- Limits of offsets 6 to 165: identity, members, loads and travel. -/
def limitsFront (b : List Byte) : Bool :=
  decide (byteAt b 6 ≤ 63) && inLimits 1 (byteAt b 7) 3 && decide (byteAt b 8 ≤ 15)
    && numberOrNone (byteAt b 9) && numberOrNone (byteAt b 10)
    && inLimits 2 (memberCount (BitVec.ofNat 16 (field b 11 2))) 12 && decide (byteAt b 13 ≤ 15)
    && (List.range 16).all (assumedLimits b)
    && inLimits 1 (field b 110 3) 200000 && decide (field b 113 3 ≤ 200000)
    && decide (field b 116 2 ≤ 50000) && decide (field b 118 2 ≤ 50000)
    && decide (field b 120 2 ≤ 50000) && decide (field b 122 3 ≤ 200000)
    && decide (field b 125 2 ≤ 50000) && (List.range 4).all (zoneLimits b)
    && decide (field b 156 3 ≤ 200000) && decide (field b 159 3 ≤ 200000)
    && decide (field b 162 2 ≤ field b 159 3) && decide (field b 162 2 ≤ 50000)
    && decide (field b 164 2 ≤ 50000)

/-- Limits of offsets 166 to 463: channels, detectors, pot, extraction, alarms, pages and supply. -/
def limitsBack (b : List Byte) : Bool :=
  (List.range 6).all (channelLimits b) && detLimits b 232 4000 && detLimits b 238 2000
    && decide (field b 244 2 ≤ 4000) && inLimits 1 (field b 246 2) 7200
    && decide (field b 249 2 ≤ 1000) && decide (field b 251 2 ≤ 1000)
    && decide (field b 253 2 ≤ 1000) && decide (field b 255 2 ≤ 1000)
    && decide (field b 257 2 ≤ 1000) && decide (field b 253 2 < field b 251 2)
    && decide (field b 251 2 < field b 249 2) && decide (field b 255 2 < field b 257 2)
    && decide (field b 257 2 ≤ field b 249 2) && inLimits 1 (byteAt b 259) 100
    && inLimits 1 (byteAt b 260) 60 && inLimits 1 (field b 261 2) 1000
    && decide (field b 263 2 ≤ 2000) && decide (field b 265 2 ≤ 2000)
    && decide (field b 267 2 ≤ 2000) && decide (byteAt b 269 ≤ 60)
    && inLimits 5 (field b 270 2) 600 && decide (field b 272 2 ≤ 5000)
    && decide (field b 274 2 ≤ 5000) && decide (field b 272 2 < field b 274 2)
    && (List.range 8).all (curveLimits b) && decide (byteAt b 316 ≤ 7)
    && (List.range 16).all (serviceLimits b) && (heatPageAt b 381).inRange
    && (fluxPageAt b 447).inRange && decide (byteAt b 459 ≤ 1)
    && inLimits 10 (field b 460 2) 2000 && inLimits 500 (field b 462 2) 2000

/-- Check 4 of R21. -/
def limitsOk (b : List Byte) : Bool := limitsFront b && limitsBack b

/-! ### The image copy -/

/-- A channel function code (R207). -/
def channelFunction (n : Nat) : ChFunction :=
  if n == 1 then .preheatTop else if n == 2 then .preheatBottom else if n == 3 then .pot else .unused

/-- A plan code (R207). -/
def planOf (n : Nat) : Plan := if n == 1 then .default else if n == 2 then .inherit else .none

/-- A channel's configuration (R207, offset 166). -/
def channelAt (b : List Byte) (k : Nat) : ChannelCfg :=
  let o := 166 + 11 * k
  { fn := channelFunction (byteAt b o), zone := byteAt b (o + 1), primary := byteAt b (o + 2)
    secondary := if byteAt b (o + 3) ≤ 7 then some (byteAt b (o + 3)) else none
    rated := byteAt b (o + 4), kp := byteAt b (o + 5), ki := byteAt b (o + 6)
    limit := field b (o + 7) 2, setback := field b (o + 9) 2 }

/-- Detector parameters at offset o (R207). -/
def detAt (b : List Byte) (o : Nat) : DetParams :=
  ⟨field b o 2, field b (o + 2) 2, byteAt b (o + 4), byteAt b (o + 5)⟩

/-- The travel fields (R207, offsets 110 to 165). -/
def geometryAt (b : List Byte) : Geometry where
  exitDistance := field b 110 3
  gap := field b 113 3
  arrivalTol := field b 116 2
  exitTol := field b 118 2
  lengthTol := field b 120 2
  gateDistance := field b 122 3
  minSpacing := field b 125 2
  debounce := byteAt b 127
  zones := (List.range 4).map fun z =>
    ⟨field b (128 + 7 * z) 3, field b (131 + 7 * z) 3, byteAt b (134 + 7 * z)⟩
  fluxPos := field b 156 3
  wavePos := field b 159 3
  raiseLead := field b 162 2
  lowerLag := field b 164 2

/-- The pot fields (R207, offsets 248 to 262). -/
def potAt (b : List Byte) : PotCfg where
  idleGrade := byteAt b 248
  high := field b 249 2
  low := field b 251 2
  lowLow := field b 253 2
  feedOn := field b 255 2
  feedOff := field b 257 2
  feedPulse := byteAt b 259
  meltPause := byteAt b 260
  budget := field b 261 2

/-- The extraction fields (R207, offsets 263 to 307). -/
def fumeAt (b : List Byte) : FumeCfg where
  hoodMax := field b 263 2
  baseFlow := field b 265 2
  vapourAdd := field b 267 2
  riseDelay := byteAt b 269
  graceTime := field b 270 2
  filterWarn := field b 272 2
  filterBlock := field b 274 2
  curve := (List.range 8).map fun i => ⟨field b (276 + 4 * i) 2, field b (278 + 4 * i) 2⟩

/-- The image copy read field by field from its bytes (R207). -/
def imageOf (b : List Byte) : Image where
  tag := field b 0 2
  length := field b 2 2
  revision := field b 4 2
  functions := functionsAt b 6
  rate := byteAt b 7
  panel := byteAt b 8
  upstream := stationAt b 9
  downstream := stationAt b 10
  members := BitVec.ofNat 16 (field b 11 2)
  cover := byteAt b 13
  assumed := (List.range 16).map fun n =>
    ⟨field b (14 + 6 * n) 2, field b (16 + 6 * n) 2, field b (18 + 6 * n) 2⟩
  geometry := geometryAt b
  channels := (List.range 6).map (channelAt b)
  heatDet := detAt b 232
  fumeDet := detAt b 238
  guardStep := field b 244 2
  idleTime := field b 246 2
  pot := potAt b
  fume := fumeAt b
  mask := BitVec.ofNat 64 (field b 308 8)
  hornLevel := byteAt b 316
  services := (List.range 16).map fun n =>
    ⟨planOf (byteAt b (317 + 4 * n)), planOf (byteAt b (318 + 4 * n)),
      flagAt b (319 + 4 * n), flagAt b (320 + 4 * n)⟩
  heatPage := heatPageAt b 381
  fluxPage := fluxPageAt b 447
  wavePage := wavePageAt b 457
  supplyLimit := field b 460 2
  roundPeriod := field b 462 2

/-! ### Check 5 and the number check (R22) -/

/-- A neighbour's number agrees: NONE, or another member. -/
def neighbourOk (img : Image) (me : Nat) : Option Nat → Bool
  | none => true
  | some n => n != me && img.member n

/-- A channel's function agrees with the station's functions. -/
def channelAgrees (img : Image) (c : ChannelCfg) : Bool :=
  match c.fn with
  | .unused => true
  | .pot => img.functions.pot
  | .preheatTop | .preheatBottom => img.functions.heat

/-- Check 5 of R21: the fields agree with one another and with the station number (R22). -/
def agreementOk (img : Image) (me : Nat) : Bool :=
  img.member me && !img.member img.panel
    && !(img.functions.entry && img.downstream.isNone && decide (1 < memberCount img.members))
    && (img.functions.entry || img.upstream.isSome)
    && neighbourOk img me img.upstream && neighbourOk img me img.downstream
    && (img.functions.hood || (img.cover != me && img.member img.cover))
    && img.channels.all (channelAgrees img)

/-- What the checks make of the bytes read: an image copy when one passed its CRC, and whether it
passed every image check (R21). -/
def judgeImage (me : Nat) : Option (List Byte) → Option Image × Bool
  | none => (none, false)
  | some b => (some (imageOf b), limitsOk b && agreementOk (imageOf b) me)

/-- The number check of R22. -/
def numberOk (img : Image) (me : Nat) : Bool := me != img.panel

end Sys2Proof.Machine
end

