-- ==== Sys2Proof/Machine/Ops.lean ====
section
/-! DEFINITION. The named operations shared by the blocks: positions, the event schedule, the
transmit queue, the settle detector, board records and exceptions, and the alarm sets and list. -/
namespace Sys2Proof.Machine

/-! ### Positions (R34) -/

/-- Position p is reached by the counter c. -/
def reached (c p : Pos) : Bool := decide ((c - p).toNat < 2 ^ 23)

/-- How far p lies behind the counter. -/
def behind (c p : Pos) : Nat := (c - p).toNat

/-- How far p lies ahead of the counter. -/
def ahead (c p : Pos) : Nat := (p - c).toNat

/-- Position a comes before position b, both compared through the counter c. -/
def before (c a b : Pos) : Bool :=
  if reached c a then
    if reached c b then decide (behind c b < behind c a) else true
  else if reached c b then false else decide (ahead c a < ahead c b)

/-- p has been reached by at least d counts. -/
def reachedBy (c p : Pos) (d : Nat) : Bool := reached c p && decide (d ≤ behind c p)

/-- A position plus an offset (R34). -/
def offset (p : Pos) (n : Nat) : Pos := p + BitVec.ofNat 24 n

/-- A position less an offset (R34). -/
def offsetBack (p : Pos) (n : Nat) : Pos := p - BitVec.ofNat 24 n

/-! ### The event schedule (R37 to R42) -/

/-- Event kind codes (12.2). -/
def EventKind.code : EventKind → Nat
  | .arrivalDeadline => 1
  | .exitDeadline => 2
  | .zoneEnter => 3
  | .zoneLeave => 4
  | .fluxStart => 5
  | .fluxStroke => 6
  | .fluxEnd => 7
  | .waveRaise => 8
  | .waveLower => 9

/-- Two entries have the same tag, kind and qualifier. -/
def Event.sameKey (a b : Event) : Bool :=
  a.tag == b.tag && a.kind == b.kind && a.qualifier == b.qualifier

/-- An entry in its place by due position, after those of equal due position (R38). -/
def placeEvent (c : Pos) (e : Event) : List Event → List Event
  | [] => [e]
  | x :: xs => if before c e.due x.due then e :: x :: xs else x :: placeEvent c e xs

/-- An insertion: the new schedule for INSERTED, none for REFUSED (R39, R40). -/
def scheduleInsert (c : Pos) (e : Event) (l : List Event) : Option (List Event) :=
  if l.any e.sameKey then some (placeEvent c e (l.filter fun x => !e.sameKey x))
  else if l.length < 48 then some (placeEvent c e l)
  else none

/-- The schedule without a tag's entries (R42). -/
def withoutTag (t : Tag) (l : List Event) : List Event := l.filter fun e => e.tag != t

/-- The schedule without one entry, by tag, kind and qualifier (R42). -/
def withoutEntry (t : Tag) (k : EventKind) (q : Nat) (l : List Event) : List Event :=
  l.filter fun e => !(e.tag == t && e.kind == k && e.qualifier == q)

/-- The schedule's head is due. -/
def headDue (c : Pos) : List Event → Bool
  | [] => false
  | e :: _ => reached c e.due

/-! ### The transmit queue (R7, R8, R10, R11) -/

/-- An entry inserted by key, after those of equal key (R7). -/
def insertByKey (e : TxEntry) : List TxEntry → List TxEntry
  | [] => [e]
  | x :: xs => if e.key < x.key then e :: x :: xs else x :: insertByKey e xs

/-- A body that replaces another: a STATUS keeps the start mark of the STATUS it replaces (R15). -/
def Body.replacing (old new : Body) : Body :=
  match old, new with
  | .status o, .status n => .status { n with startMark := n.startMark || o.startMark }
  | _, n => n

/-- Kinds of which a new frame replaces a waiting one (R10). -/
def Body.replaces : Body → Bool
  | .status _ | .heatDemand .. => true
  | .alarmRaise .. | .alarmAck .. | .boardOffer .. | .alarmClear .. | .admitted _ | .boardExit ..
  | .recipeRequest .. | .snapshotReport _ | .profile _ => false

/-- The waiting entry of the same kind, replaced in its place; none when there is none (R10). -/
def replaceWaiting (e : TxEntry) : List TxEntry → Option (List TxEntry)
  | [] => none
  | x :: xs =>
    if !x.inTx && x.key == e.key then some ({ e with body := x.body.replacing e.body } :: xs)
    else (replaceWaiting e xs).map (x :: ·)

/-- The index of the weakest waiting entry: highest key, last among equals (R11). -/
def weakestFrom (i : Nat) (best : Option (Nat × Nat)) : List TxEntry → Option Nat
  | [] => best.map (·.1)
  | x :: xs =>
    let take := !x.inTx && (match best with | none => true | some b => decide (b.2 ≤ x.key))
    weakestFrom (i + 1) (if take then some (i, x.key) else best) xs

/-- A frame placed in the queue: the new queue, and the frame dropped by R11 if one is. -/
def placeFrame (q : List TxEntry) (e : TxEntry) : List TxEntry × Option TxEntry :=
  match (if e.body.replaces then replaceWaiting e q else none) with
  | some q' => (q', none)
  | none =>
    if q.length < 12 then (insertByKey e q, none)
    else
      match weakestFrom 0 none q with
      | none => (q, some e)
      | some i =>
        match q[i]? with
        | none => (q, some e)
        | some w => if e.key < w.key then (insertByKey e (q.eraseIdx i), some w) else (q, some e)

/-- What a dropped frame's block is told: a BOARD OFFER is given NONE (held until the tracker takes
it, log entry 10), a SNAPSHOT REPORT releases the latch; the others act on no answer (R11, R45). -/
def dropFrame (e : TxEntry) (s : State) : State :=
  match e.body with
  | .boardOffer r _ => { s with link := { s.link with offersDropped := s.link.offersDropped ++ [r.tag] } }
  | .snapshotReport _ => { s with pos := { s.pos with snapshot := none } }
  | _ => s

/-- A block queues a frame (R7, R10, R11). -/
def enqueue (block : Block) (target : BitVec 5) (body : Body) (s : State) : State :=
  let r := placeFrame s.link.queue ⟨body, target, block, false, false⟩
  match r.2 with
  | none => { s with link := { s.link with queue := r.1 } }
  | some d =>
    dropFrame d
      { s with link := { s.link with queue := r.1, discard := (s.link.discard + 1) % 256 } }

/-! ### Expiries overtaken (log entry 3) -/

/-- The list without a timer. -/
def withoutTimer (t : OwnTimer) (l : List OwnTimer) : List OwnTimer := l.filter fun x => x != t

/-- A timer is restarted: an expiry of it that the station's own time has queued is void. -/
def overtake (t : OwnTimer) (s : State) : State :=
  if t ∈ s.expiries.queued then
    { s with expiries := ⟨withoutTimer t s.expiries.queued, t :: s.expiries.lapsed⟩ }
  else s

/-- An expiry is taken: a void one is dropped, any other acts (R15, R164, R165, R175). -/
def takeExpiry (t : OwnTimer) (act : State → State) (s : State) : State :=
  if t ∈ s.expiries.lapsed then
    { s with expiries := { s.expiries with lapsed := withoutTimer t s.expiries.lapsed } }
  else act { s with expiries := { s.expiries with queued := withoutTimer t s.expiries.queued } }

/-! ### The settle detector (R108 to R111) -/

/-- Where a value lies against a detector's bands. -/
inductive Band where
  | tight
  | relaxed
  | outside
  deriving DecidableEq, Repr

/-- Two-sided form: the difference without sign is no more than the band (R108). -/
def bandTwoSided (p : DetParams) (value target : Int) : Band :=
  if (value - target).natAbs ≤ p.tight then .tight
  else if (value - target).natAbs ≤ p.relaxed then .relaxed
  else .outside

/-- One-sided form: the value is at least the target less the band (R108). -/
def bandOneSided (p : DetParams) (value target : Int) : Band :=
  if target - p.tight ≤ value then .tight
  else if target - p.relaxed ≤ value then .relaxed
  else .outside

/-- One value given to a detector (R109). -/
def Detector.feed (p : DetParams) (b : Band) (d : Detector) : Detector :=
  match d.phase, b with
  | .unsettled, .tight => if d.run + 1 ≥ p.n then ⟨.confirming, 0⟩ else ⟨.unsettled, d.run + 1⟩
  | .unsettled, _ => ⟨.unsettled, 0⟩
  | .confirming, .tight => if d.run + 1 ≥ p.k then ⟨.settled, 0⟩ else ⟨.confirming, d.run + 1⟩
  | .confirming, _ => ⟨.unsettled, 0⟩
  | .settled, .outside => ⟨.unsettled, 0⟩
  | .settled, _ => d

/-- A change of a detector out of SETTLED by a value or a hold is a loss (R109, R111). -/
def Detector.lostTo (d d' : Detector) : Bool := d.phase == .settled && d'.phase != .settled

/-! ### Board records and exceptions (R52, R53) -/

/-- The record with a tag. -/
def findRecord (t : Tag) (q : List BoardRecord) : Option BoardRecord := q.find? fun r => r.tag == t

/-- A change to the record with a tag. -/
def updateRecord (t : Tag) (f : BoardRecord → BoardRecord) (q : List BoardRecord) :
    List BoardRecord := q.map fun r => if r.tag == t then f r else r

/-- A record in its place: after those with a lead when it has one, else at the tail (R52). -/
def placeRecord (r : BoardRecord) : List BoardRecord → List BoardRecord
  | [] => [r]
  | x :: xs => if r.lead.isSome && x.lead.isNone then r :: x :: xs else x :: placeRecord r xs

/-- An exception added to a record: not twice, and six at most (R53). -/
def BoardRecord.addException (e : BoardException) (r : BoardRecord) : BoardRecord :=
  if e ∈ r.exceptions then r
  else if r.exceptions.length < 6 then { r with exceptions := r.exceptions ++ [e] }
  else { r with overflow := true }

/-- A request to add an exception to the record with a tag; without one it is dropped (R53). -/
def addException (t : Tag) (code qualifier : Nat) (s : State) : State :=
  { s with board := { s.board with
      queue := updateRecord t (BoardRecord.addException ⟨code, qualifier, s.me⟩) s.board.queue } }

/-- A change to the queue of records. -/
def mapRecord (t : Tag) (f : BoardRecord → BoardRecord) (s : State) : State :=
  { s with board := { s.board with queue := updateRecord t f s.board.queue } }

/-- The head of the expected list: the first WAITING entry (R46). -/
def Tracker.head (b : Tracker) : Option Expected := b.expected.find? fun e => !e.admitted

/-! ### Exception codes (12.2) -/

/-- RECIPE DEFAULTED. -/
def xRecipeDefaulted : Nat := 1
/-- LENGTH MISMATCH. -/
def xLengthMismatch : Nat := 2
/-- EVENT LOST. -/
def xEventLost : Nat := 3
/-- ZONE DISTURBED. -/
def xZoneDisturbed : Nat := 4
/-- POWER LIMITED. -/
def xPowerLimited : Nat := 5
/-- FLUX SKIPPED. -/
def xFluxSkipped : Nat := 6
/-- FLUX PARTIAL. -/
def xFluxPartial : Nat := 7
/-- FLUX STARVED. -/
def xFluxStarved : Nat := 8
/-- WAVE LOW. -/
def xWaveLow : Nat := 9
/-- WAVE LOST. -/
def xWaveLost : Nat := 10

/-! ### Alarm codes (R188) -/

/-- The level of a code, 0 to 7; a code that is not assigned has none. -/
def alarmLevel (c : Nat) : Option Nat :=
  if c ≤ 5 then some 4 else if c ≤ 11 then some 6 else if c ≤ 17 then some 7
  else if c ≤ 23 then some 7 else if c ≤ 29 then some 3
  else [6, 5, 5, 5, 6, 6, 4, 4, 3, 5, 2, 5, 2, 3, 7, 4, 2, 6, 5, 7, 2, 6, 7, 6, 3, 1, 0, 6][c - 30]?

/-- The level of an assigned code. -/
def levelOf (c : Nat) : Nat := (alarmLevel c).getD 0

/-- How a latched code leaves the in-service set. -/
inductive Recovery where
  | condition
  | atOnce
  | resetOnly
  deriving DecidableEq, Repr

/-- Codes whose trigger is LIVE. -/
def alarmLive (c : Nat) : Bool :=
  inLimits 6 c 11 || [30, 34, 35, 37, 40, 41, 43, 44, 45, 46, 48, 49, 50, 51, 53, 54, 55].contains c

/-- The recovery of a latched code. -/
def alarmRecovery (c : Nat) : Recovery :=
  if inLimits 12 c 17 then .resetOnly
  else if decide (c ≤ 5) || inLimits 18 c 29 || c == 36 || c == 39 || c == 52 then .condition
  else .atOnce

/-- SENSOR SWITCHED of channel k. -/
def aSensorSwitched (k : Nat) : Nat := k
/-- SENSOR BLIND of channel k. -/
def aSensorBlind (k : Nat) : Nat := 6 + k
/-- CHANNEL FAULTED of channel k. -/
def aChannelFaulted (k : Nat) : Nat := 12 + k
/-- OVERTEMP of channel k. -/
def aOvertemp (k : Nat) : Nat := 18 + k
/-- SETTLE LOST of channel k. -/
def aSettleLost (k : Nat) : Nat := 24 + k
/-- MAINS MISSING. -/
def aMainsMissing : Nat := 30
/-- BOARD MISSING. -/
def aBoardMissing : Nat := 31
/-- STRAY BOARD. -/
def aStrayBoard : Nat := 32
/-- HANDOFF REFUSED. -/
def aHandoffRefused : Nat := 33
/-- DOWNSTREAM ABSENT. -/
def aDownstreamAbsent : Nat := 34
/-- DOWNSTREAM FULL. -/
def aDownstreamFull : Nat := 35
/-- REVERSE TRAVEL. -/
def aReverseTravel : Nat := 36
/-- RECIPE UNAVAILABLE. -/
def aRecipeUnavailable : Nat := 37
/-- DIRECTORY FULL. -/
def aDirectoryFull : Nat := 38
/-- FLUX SUPPLY. -/
def aFluxSupply : Nat := 39
/-- FLUX TANK LOW. -/
def aFluxTankLow : Nat := 40
/-- FLUX TANK EMPTY. -/
def aFluxTankEmpty : Nat := 41
/-- STROKE OVERRUN. -/
def aStrokeOverrun : Nat := 42
/-- LEVEL LOW. -/
def aLevelLow : Nat := 43
/-- LEVEL LOW-LOW. -/
def aLevelLowLow : Nat := 44
/-- LEVEL HIGH. -/
def aLevelHigh : Nat := 45
/-- LEVEL UNVERIFIED. -/
def aLevelUnverified : Nat := 46
/-- FEED RUNAWAY. -/
def aFeedRunaway : Nat := 47
/-- EXTRACTION LOW. -/
def aExtractionLow : Nat := 48
/-- EXTRACTION LOST. -/
def aExtractionLost : Nat := 49
/-- FILTER LOADED. -/
def aFilterLoaded : Nat := 50
/-- FILTER BLOCKED. -/
def aFilterBlocked : Nat := 51
/-- FAN NOT RUNNING. -/
def aFanNotRunning : Nat := 52
/-- LINK ISOLATED. -/
def aLinkIsolated : Nat := 53
/-- PEER STALE. -/
def aPeerStale : Nat := 54
/-- POWER SHORT. -/
def aPowerShort : Nat := 55
/-- BOARD DEFAULTED. -/
def aBoardDefaulted : Nat := 56
/-- NUMBER CONFLICT. -/
def aNumberConflict : Nat := 57

/-! ### The alarm sets (R189 to R191) -/

/-- Where a code stands. -/
def AlarmUnit.at (a : AlarmUnit) (c : Nat) : Place := a.place.getD c .idle

/-- A code's condition or recovery flag. -/
def AlarmUnit.flag (a : AlarmUnit) (c : Nat) : Bool := a.flags.getD c false

/-- A code moved to another place. -/
def AlarmUnit.move (c : Nat) (p : Place) (a : AlarmUnit) : AlarmUnit :=
  { a with place := a.place.set c p }

/-- A code's flag set to a value. -/
def AlarmUnit.setFlag (c : Nat) (v : Bool) (a : AlarmUnit) : AlarmUnit :=
  { a with flags := a.flags.set c v }

/-- A code is in one of the station's own sets (R197). -/
def AlarmUnit.standing (a : AlarmUnit) (c : Nat) : Bool := a.at c != .idle

/-- A code is held back by the mask; a level-7 code never is (R190). -/
def Image.masked (img : Image) (c : Nat) : Bool := img.mask.getLsbD c && levelOf c != 7

/-- An appearance of a latched code: an idle code joins the request set, but a masked one whose
recovery flag is set leaves again at once (R189, R191). -/
def AlarmUnit.appear (img : Image) (c : Nat) (a : AlarmUnit) : AlarmUnit :=
  if a.at c = .idle then
    if img.masked c && alarmRecovery c == .condition && a.flag c then a else a.move c .request
  else a

/-- A block passes an appearance to the Alarm Controller (R189). -/
def appearance (c : Nat) (s : State) : State := { s with alarm := s.alarm.appear s.cfg c }

/-- The end of a recovery condition, which sets nothing in motion (R189). -/
def recoveryEnds (c : Nat) (s : State) : State := { s with alarm := s.alarm.setFlag c false }

/-- A loss of channel k's detector: the recovery condition of SETTLE LOST, SETTLED, ends, and SETTLE LOST
appears (R112). The spec does not say which reaches the controller first: DESIGN CHOICE, the end (log
entry 40). -/
def settleLost (k : Nat) (s : State) : State :=
  appearance (aSettleLost k) (recoveryEnds (aSettleLost k) s)

/-! ### The line alarm list (R199, R200) -/

/-- The entry of an origin and code. -/
def LineEntry.is (o c : Nat) (e : LineEntry) : Bool := e.origin == o && e.code == c

/-- An entry inserted by level, highest first, after those of its level (R199). -/
def placeLine (e : LineEntry) : List LineEntry → List LineEntry
  | [] => [e]
  | x :: xs => if x.level < e.level then e :: x :: xs else x :: placeLine e xs

/-- The index of the last entry that meets a test. -/
def lastIndex (p : LineEntry → Bool) (i : Nat) (best : Option Nat) : List LineEntry → Option Nat
  | [] => best
  | x :: xs => lastIndex p (i + 1) (if p x then some i else best) xs

/-- The lowest level of the entries that meet a test. -/
def lowestLevel (p : LineEntry → Bool) (l : List LineEntry) : Option Nat :=
  ((l.filter p).map (·.level)).foldl (fun m n => some (match m with | none => n | some k => min k n)) none

/-- The entry that a full list gives up for a new one of the level given (R199). -/
def displaced (level : Nat) (l : List LineEntry) : Option Nat :=
  match lowestLevel (·.inService) l with
  | some v => lastIndex (fun e => e.inService && e.level == v) 0 none l
  | none =>
    match lowestLevel (fun e => !e.inService) l with
    | none => none
    | some v =>
      if v < level then
        match lastIndex (fun e => !e.inService && e.level == v && e.gone) 0 none l with
        | some i => some i
        | none => lastIndex (fun e => !e.inService && e.level == v) 0 none l
      else none

/-- An announcement entered in the list (R199). -/
def AlarmUnit.enter (e : LineEntry) (a : AlarmUnit) : AlarmUnit :=
  if a.list.any (LineEntry.is e.origin e.code) then
    { a with list := a.list.map fun x =>
        if x.is e.origin e.code then { x with inService := e.inService, gone := e.gone } else x }
  else if a.list.length < 32 then { a with list := placeLine e a.list }
  else
    match displaced e.level a.list with
    | some i => { a with list := placeLine e (a.list.eraseIdx i), incomplete := true }
    | none => { a with incomplete := true }

/-- Entries taken out of the list; the incomplete flag clears when the list empties (R199). -/
def AlarmUnit.strike (p : LineEntry → Bool) (a : AlarmUnit) : AlarmUnit :=
  let l := a.list.filter fun e => !p e
  { a with list := l, incomplete := a.incomplete && !(l.isEmpty && !a.list.isEmpty) }

/-- A specific acknowledgement on the list: a PENDING entry becomes IN-SERVICE (R200). -/
def AlarmUnit.listAck (o c : Nat) (a : AlarmUnit) : AlarmUnit :=
  { a with list := a.list.map fun e =>
      if e.is o c && !e.inService then { e with inService := true } else e }

/-- The code of the origin's PENDING entry of highest level, the one a non-specific acknowledgement
takes on the list (R200). Of two at one level R200 names neither: DESIGN CHOICE, the earlier listed (log
entry 50). -/
def AlarmUnit.highestListed (o : Nat) (a : AlarmUnit) : Option Nat :=
  (a.list.find? fun e => e.origin == o && !e.inService).map (·.code)

/-- The codes of the pending set. -/
def AlarmUnit.pendingCodes (a : AlarmUnit) : List Nat :=
  (List.range 64).filter fun c => match a.at c with | .pending _ => true | _ => false

/-- The highest level in the pending set (R190). -/
def AlarmUnit.highestPending (a : AlarmUnit) : Option Nat :=
  (a.pendingCodes.map levelOf).foldl (fun m n => some (match m with | none => n | some k => max k n)) none

/-- The ALARM RAISE of an own code queued (R192, R193). -/
def queueRaise (c : Nat) (inService gone : Bool) (s : State) : State :=
  enqueue .alarms allTarget (.alarmRaise c (levelOf c) inService gone) s

/-- An own announcement entered in the list and its ALARM RAISE queued (R192). -/
def announce (c : Nat) (inService gone : Bool) (s : State) : State :=
  queueRaise c inService gone
    { s with alarm := s.alarm.enter ⟨s.me, c, levelOf c, inService, gone⟩ }

/-- The gone mark of an origin's entry, where the list holds one (R193). An entry that a non-specific
acknowledgement has made IN-SERVICE in place of an unlisted higher code while its own code is still pending can
meet a change of the mark; R193 says 'updates' alone: DESIGN CHOICE, the mark changes and the entry stays
IN-SERVICE (log entry 51). -/
def AlarmUnit.listGone (o c : Nat) (gone : Bool) (a : AlarmUnit) : AlarmUnit :=
  { a with list := a.list.map fun e => if e.is o c then { e with gone := gone } else e }

/-- A pending code's gone mark changed: its own list entry is brought up to date where it is listed, and
ALARM RAISE carries the new mark (R193). -/
def remark (c : Nat) (gone : Bool) (s : State) : State :=
  queueRaise c false gone
    { s with alarm := (s.alarm.move c (.pending gone)).listGone s.me c gone }

/-- A code leaves the sets to idle with its ALARM CLEAR; its own list entry is removed (R194, R196). -/
def clearCode (c : Nat) (gone : Bool) (s : State) : State :=
  enqueue .alarms allTarget (.alarmClear c gone)
    { s with alarm := (s.alarm.move c .idle).strike (LineEntry.is s.me c) }

end Sys2Proof.Machine
end

