-- ==== Sys2Proof/Machine/AlarmOps.lean ====
section
/-! DEFINITION. Channel modes (R102), which the alarm machinery re-derives at a trip release, and the
reports to and acknowledgements of the Alarm Controller (R189 to R196). -/
namespace Sys2Proof.Machine

/-! ### Channel modes -/

/-- A change to channel k. -/
def modChannel (k : Nat) (f : Channel → Channel) (s : State) : State :=
  { s with heat := { s.heat with channels := s.heat.channels.modify k f } }

/-- The mode that the table of R102 gives. -/
def modeOf (st : StationState) (fn : ChFunction) (c : Channel) : Mode :=
  if fn = .unused ∨ st ≠ .running then .idle
  else if c.fault then .faulted
  else if c.trip then .tripped
  else if c.lost then .blind
  else .regulating

/-- Modes in which the detector is held (R112). -/
def Mode.holds : Mode → Bool
  | .blind | .faulted => true
  | .idle | .regulating | .tripped => false

/-- Modes without output (R115, R121). -/
def Mode.off : Mode → Bool
  | .idle | .tripped | .faulted => true
  | .regulating | .blind => false

/-- The blind timer and held duty at a mode change (R101). -/
def Channel.blindFor (m : Mode) (c : Channel) : Channel :=
  if m = .blind then { c with held := c.history.sum / 64, blind := some 0 }
  else { c with blind := none }

/-- The integrator, outputs and limit flags at a mode change (R114, R115, R116, R121). -/
def Channel.outputFor (m : Mode) (c : Channel) : Channel :=
  if m.off then { c with iacc := 0, uc := 0, duty := 0, acc := 0, firing := false }
  else if m = .regulating then { c with limUp := false, limDown := false }
  else c

/-- The hold of the detector that a mode change begins (R111, R112). -/
def Channel.holdFor (m : Mode) (c : Channel) : Channel :=
  if m.holds && !c.mode.holds then
    if c.det.phase = .settled then
      { c with det := Detector.cold, heldFlag := false, armed := false }
    else { c with det := Detector.cold }
  else c

/-- A channel taking a mode, with the effects of the change (R102). -/
def Channel.enterMode (m : Mode) (c : Channel) : Channel :=
  if m = c.mode then c else { (((c.holdFor m).outputFor m).blindFor m) with mode := m }

/-- The change to a mode is a loss of the detector (R111). -/
def Channel.lossAt (m : Mode) (c : Channel) : Bool :=
  m != c.mode && m.holds && !c.mode.holds && c.det.phase == .settled

/-- Channel k's mode derived anew (R102); a loss of its detector is an appearance of SETTLE LOST
(R112). -/
def rederive (k : Nat) (s : State) : State :=
  match s.heat.channels[k]? with
  | none => s
  | some c =>
    let m := modeOf s.loader.station (s.cfg.channel k).fn c
    let s1 := modChannel k (Channel.enterMode m) s
    if c.lossAt m then settleLost k s1 else s1

/-- Every channel's mode derived anew. -/
def rederiveAll (s : State) : State := (List.range 6).foldl (fun s k => rederive k s) s

/-! ### Reports (R189) -/

/-- A code leaves the in-service set to idle with ALARM CLEAR RECOVERED; OVERTEMP releases its
channel's trip (R103, R196, R197). -/
def leaveInService (c : Nat) (s : State) : State :=
  let s1 := clearCode c false s
  if inLimits 18 c 23 then rederive (c - 18) (modChannel (c - 18) (fun ch => { ch with trip := false }) s1)
  else s1

/-- A LIVE condition starts (R189, R193). -/
def conditionStarts (c : Nat) (s : State) : State :=
  let s1 := { s with alarm := s.alarm.setFlag c true }
  match s.alarm.at c with
  | .idle => { s1 with alarm := s1.alarm.move c .request }
  | .pending true => remark c false s1
  | .request | .pending false | .inService => s1

/-- A LIVE condition ends (R189, R191, R193, R196). -/
def conditionEnds (c : Nat) (s : State) : State :=
  let s1 := { s with alarm := s.alarm.setFlag c false }
  match s.alarm.at c with
  | .request => { s1 with alarm := s1.alarm.move c .idle }
  | .pending false => remark c true s1
  | .inService => leaveInService c s1
  | .idle | .pending true => s1

/-- The owner's report of a LIVE condition: only a start or an end acts (R189). -/
def reportLive (c : Nat) (holds : Bool) (s : State) : State :=
  if holds = s.alarm.flag c then s
  else if holds then conditionStarts c s
  else conditionEnds c s

/-- The owner's report of a recovery condition (R189, R191, R196). -/
def reportRecovery (c : Nat) (holds : Bool) (s : State) : State :=
  if holds = s.alarm.flag c then s
  else
    if !holds then recoveryEnds c s
    else
      let s1 := { s with alarm := s.alarm.setFlag c true }
      match s.alarm.at c with
      | .request => if s.cfg.masked c then { s1 with alarm := s1.alarm.move c .idle } else s1
      | .inService => leaveInService c s1
      | .idle | .pending _ => s1

/-! ### Acknowledgement (R194 to R196) -/

/-- A code joins the in-service set. OVERTEMP joins with its recovery flag clear (R196). -/
def joinInService (c : Nat) (s : State) : State :=
  let s1 := { s with alarm := s.alarm.move c .inService }
  if inLimits 18 c 23 then
    modChannel (c - 18) (fun ch => { ch with cool := false })
      { s1 with alarm := s1.alarm.setFlag c false }
  else s1

/-- A latched code on joining the in-service set: it leaves at once when its recovery is NONE or
already holds (R196). -/
def settleInService (c : Nat) (s : State) : State :=
  if alarmLive c then s
  else
    match alarmRecovery c with
    | .atOnce => leaveInService c s
    | .condition => if s.alarm.flag c then leaveInService c s else s
    | .resetOnly => s

/-- A specific acknowledgement of an own code (R194). -/
def ackOwn (c : Nat) (s : State) : State :=
  match s.alarm.at c with
  | .pending gone =>
    if alarmLive c && gone then clearCode c true s
    else settleInService c (joinInService c s)
  | .idle | .request | .inService => s

/-- The own pending code of the highest level, which a non-specific acknowledgement takes (R195). -/
def highestOwn (a : AlarmUnit) : Option Nat :=
  match a.highestPending with
  | none => none
  | some l => a.pendingCodes.find? fun c => levelOf c == l

/-- An acknowledgement taken or queued, applied to the list and, for an own alarm, to the sets
(R194, R195, R200). -/
def applyAck (origin : Nat) (code : Option Nat) (s : State) : State :=
  match code with
  | some c =>
    let s1 := { s with alarm := s.alarm.listAck origin c }
    if origin = s.me then ackOwn c s1 else s1
  | none =>
    let s1 := match s.alarm.highestListed origin with
      | some c => { s with alarm := s.alarm.listAck origin c }
      | none => s
    if origin = s.me then
      match highestOwn s.alarm with
      | some c => ackOwn c s1
      | none => s1
    else s1

end Sys2Proof.Machine
end

