-- ==== Sys2Proof/Machine/RecipeOps.lean ====
section
/-! DEFINITION. The Recipe Store's shared operations: references, resolution, fetches, the sweep,
storing pages, and the page a reference gives (05). -/
namespace Sys2Proof.Machine

/-! ### The directory -/

/-- The page kinds a station needs (R77). -/
def Functions.needs (f : Functions) : PageKind → Bool
  | .heat => f.heat || f.pot
  | .flux => f.flux
  | .wave => f.pot

/-- The resident page of a kind. -/
def DirEntry.page (e : DirEntry) : PageKind → Option Resident
  | .heat => e.heat
  | .flux => e.flux
  | .wave => e.wave

/-- An entry with a page made resident or changed. -/
def DirEntry.withPage (e : DirEntry) (k : PageKind) (r : Resident) : DirEntry :=
  match k with
  | .heat => { e with heat := some r }
  | .flux => { e with flux := some r }
  | .wave => { e with wave := some r }

/-- A needed kind is missing from an entry (R77). -/
def DirEntry.missing (f : Functions) (e : DirEntry) (k : PageKind) : Bool :=
  f.needs k && (e.page k).isNone

/-- Nothing needed is missing: the entry is complete (R77). -/
def DirEntry.full (f : Functions) (e : DirEntry) : Bool :=
  !(e.missing f .heat || e.missing f .flux || e.missing f .wave)

/-- The slots an entry holds. -/
def DirEntry.slots (e : DirEntry) : List Nat :=
  [e.heat, e.flux, e.wave].filterMap fun r => r.map (·.slot)

/-- Directory entry i. -/
def RecipeStore.entry (st : RecipeStore) (i : Nat) : Option DirEntry := st.dir.getD i none

/-- Directory entry i written. -/
def RecipeStore.setEntry (i : Nat) (e : Option DirEntry) (st : RecipeStore) : RecipeStore :=
  { st with dir := st.dir.set i e }

/-- Slots returned to the free list (R79). -/
def RecipeStore.freeSlots (l : List Nat) (st : RecipeStore) : RecipeStore :=
  { st with slots := l.foldl (fun a n => a.set n none) st.slots }

/-- Entry i freed: its slots return to the free list and its fetch timer is gone (R80, R86). -/
def RecipeStore.free (i : Nat) (e : DirEntry) (st : RecipeStore) : RecipeStore :=
  (st.freeSlots e.slots).setEntry i none

/-- The LIVE entry of a product (R80). -/
def RecipeStore.liveEntry (st : RecipeStore) (p : Nat) : Option Nat :=
  (List.range 32).find? fun i =>
    match st.entry i with
    | some e => e.live && e.product == p
    | none => false

/-- The lowest-numbered free entry (R78). -/
def RecipeStore.freeEntry (st : RecipeStore) : Option Nat :=
  (List.range 32).find? fun i => (st.entry i).isNone

/-- A free slot: the lowest-numbered (log entry 12). -/
def RecipeStore.freeSlot (st : RecipeStore) : Option Nat :=
  (List.range 64).find? fun n => (st.slots.getD n none).isNone

/-- A reference made: the count goes up and the used bit is set (R80). -/
def RecipeStore.hold (i : Nat) (st : RecipeStore) : RecipeStore :=
  match st.entry i with
  | none => st
  | some e => st.setEntry i (some { e with count := e.count + 1, used := true })

/-- A reference released; a RETIRED entry left without one is freed at once (R80). -/
def RecipeStore.release (r : Ref) (st : RecipeStore) : RecipeStore :=
  match r with
  | .default | .service _ | .unentered _ => st
  | .entry i =>
    match st.entry i with
    | none => st
    | some e =>
      if !e.live && e.count ≤ 1 then st.free i e
      else st.setEntry i (some { e with count := e.count - 1 })

/-- The sweep (R86, R87): n entries are examined from the hand; entries that `pass` names are passed
without change, referenced ones are passed, used ones lose their used bit, and the first other is
evicted. Answers the entry evicted, if one was. -/
def RecipeStore.sweep (pass : Nat → DirEntry → Bool) : Nat → RecipeStore → Option Nat × RecipeStore
  | 0, st => (none, st)
  | n + 1, st =>
    let i := st.hand
    let next := { st with hand := (st.hand + 1) % 32 }
    match st.entry i with
    | none => RecipeStore.sweep pass n next
    | some e =>
      if pass i e || e.count != 0 then RecipeStore.sweep pass n next
      else if e.used then RecipeStore.sweep pass n (next.setEntry i (some { e with used := false }))
      else (some i, next.free i e)

/-- Room for a product: a free entry, or one the directory sweep frees (R83, R86). -/
def RecipeStore.roomForProduct (st : RecipeStore) : Option Nat × RecipeStore :=
  match st.freeEntry with
  | some i => (some i, st)
  | none => st.sweep (fun _ _ => false) 32

/-- Room for a page of entry i: a free slot, or one the page-store sweep frees (R79, R87). -/
def RecipeStore.roomForPage (i : Nat) (st : RecipeStore) : Option Nat × RecipeStore :=
  match st.freeSlot with
  | some n => (some n, st)
  | none =>
    let r := st.sweep (fun j e => j == i || e.slots.isEmpty) 32
    match r.1 with
    | none => (none, r.2)
    | some _ => (r.2.freeSlot, r.2)

/-! ### Fetches and resolution -/

/-- A fetch of entry i starts (R83). -/
def startFetch (i : Nat) (s : State) : State :=
  match s.recipe.entry i with
  | none => s
  | some e =>
    let f := s.cfg.functions
    if e.full f then
      { s with recipe := s.recipe.setEntry i (some { e with fetch := .complete, timer := none }) }
    else
      enqueue .recipes (toStation s.cfg.panel)
        (.recipeRequest e.product (e.missing f .heat) (e.missing f .flux) (e.missing f .wave))
        { s with recipe := s.recipe.setEntry i (some { e with fetch := .fetching, timer := some 0 }) }

/-- An unentered reference to a product that has been entered as i joins it (R88). -/
def Ref.join (p i : Nat) (r : Ref) : Ref := if r = .unentered p then .entry i else r

/-- How many references hold the product alone (R88). -/
def unenteredCount (p : Nat) (s : State) : Nat :=
  (s.board.expected.filter fun e => e.ref == .unentered p).length
    + (s.board.queue.filter fun r => r.ref == .unentered p).length

/-- The unentered references of product p join entry i (R88). -/
def joinUnentered (p i : Nat) (s : State) : State :=
  { s with board := { s.board with
      expected := s.board.expected.map fun e => { e with ref := e.ref.join p i }
      queue := s.board.queue.map fun r => { r with ref := r.ref.join p i } } }

/-- A product entered in the directory with one new reference and its fetch started, or the
reference left unentered with DIRECTORY FULL (R83, R88). -/
def enterProduct (p : Nat) (s : State) : Ref × State :=
  let r := s.recipe.roomForProduct
  let s1 := { s with recipe := r.2 }
  match r.1 with
  | none => (.unentered p, appearance aDirectoryFull s1)
  | some i =>
    let e : DirEntry := ⟨p, true, .fetching, none, none, none, true, unenteredCount p s + 1, none⟩
    (.entry i, startFetch i (joinUnentered p i { s1 with recipe := s1.recipe.setEntry i (some e) }))

/-- A resolution (R81): the reference made, and the state after. -/
def resolve (p : Product) (s : State) : Ref × State :=
  match p with
  | none => (.default, s)
  | some c =>
    if isServiceCode c then (.service (c - 1048560), s)
    else
      match s.recipe.liveEntry c with
      | none => enterProduct c s
      | some i =>
        let s1 := { s with recipe := s.recipe.hold i }
        match s.recipe.entry i with
        | some e => (.entry i, if e.fetch = .failed then startFetch i s1 else s1)
        | none => (.entry i, s1)

/-- A reference released by its holder (R80). -/
def releaseRef (r : Ref) (s : State) : State := { s with recipe := s.recipe.release r }

/-! ### What a reference gives (R81, R92, R93) -/

/-- The resolution status of a reference (R81, R84). -/
def RecipeStore.status (st : RecipeStore) : Ref → Resolution
  | .default => .defaulted
  | .service _ => .resolved
  | .unentered _ => .fetching
  | .entry i =>
    match st.entry i with
    | some e => if e.fetch = .complete then .resolved else .fetching
    | none => .fetching

/-- The default page of a kind. -/
def Image.defaultPage (img : Image) : PageKind → Page
  | .heat => .heat img.heatPage
  | .flux => .flux img.fluxPage
  | .wave => .wave img.wavePage

/-- The page of a kind that entry i holds. -/
def RecipeStore.pageOf (st : RecipeStore) (i : Nat) (k : PageKind) : Option Page :=
  match st.entry i with
  | none => none
  | some e =>
    match e.page k with
    | none => none
    | some r => st.slots.getD r.slot none

/-- The page found by R93: that of the nearest earlier reference that is no service reference
(`earlier` lists them nearest first), and the default page otherwise. -/
def inheritedPage (s : State) (earlier : List Ref) (k : PageKind) : Page :=
  match earlier.find? fun r => match r with | .service _ => false | _ => true with
  | some (.entry i) =>
    if s.recipe.status (.entry i) = .resolved then (s.recipe.pageOf i k).getD (s.cfg.defaultPage k)
    else s.cfg.defaultPage k
  | _ => s.cfg.defaultPage k

/-- The page that a plan of a service entry gives (R92). -/
def planPage (s : State) (earlier : List Ref) (k : PageKind) : Plan → Option Page
  | .none => none
  | .default => some (s.cfg.defaultPage k)
  | .inherit => some (inheritedPage s earlier k)

/-- The page that a reference gives for a kind (R92); `earlier` are the references before it. -/
def refPage (s : State) (earlier : List Ref) (k : PageKind) : Ref → Option Page
  | .entry i => if s.recipe.status (.entry i) = .resolved then s.recipe.pageOf i k else none
  | .unentered _ => none
  | .default => some (s.cfg.defaultPage k)
  | .service n =>
    match k with
    | .heat => if (s.cfg.service n).heatDefault then some (s.cfg.defaultPage .heat) else none
    | .flux => planPage s earlier .flux (s.cfg.service n).flux
    | .wave => planPage s earlier .wave (s.cfg.service n).wave

/-- The references of the records before the record with a tag, nearest first (R93). -/
def earlierRefs (t : Tag) : List BoardRecord → List Ref → List Ref
  | [], acc => acc
  | r :: rs, acc => if r.tag == t then acc else earlierRefs t rs (r.ref :: acc)

/-- The page that a board record's reference gives for a kind. -/
def boardPage (t : Tag) (k : PageKind) (s : State) : Option Page :=
  match findRecord t s.board.queue with
  | none => none
  | some r => refPage s (earlierRefs t s.board.queue []) k r.ref

/-- The FLUX page of a board. -/
def boardFlux (t : Tag) (s : State) : Option FluxPage :=
  match boardPage t .flux s with
  | some (.flux p) => some p
  | _ => none

/-- The WAVE page of a board. -/
def boardWave (t : Tag) (s : State) : Option WavePage :=
  match boardPage t .wave s with
  | some (.wave p) => some p
  | _ => none

/-- The HEAT page a reference gives; no reference gives an inherited HEAT page (R92). -/
def refHeat (r : Ref) (s : State) : Option HeatPage :=
  match refPage s [] .heat r with
  | some (.heat p) => some p
  | _ => none

/-- A board's first use: a FETCHING reference becomes DEFAULT with RECIPE DEFAULTED and BOARD
DEFAULTED (R95). -/
def firstUse (t : Tag) (s : State) : State :=
  match findRecord t s.board.queue with
  | none => s
  | some r =>
    if s.recipe.status r.ref = .fetching then
      appearance aBoardDefaulted
        (addException t xRecipeDefaulted 0
          (mapRecord t (fun r => { r with ref := .default }) (releaseRef r.ref s)))
    else s

/-! ### Storing pages (R84, R90) -/

/-- A page written into a slot. -/
def RecipeStore.writeSlot (n : Nat) (p : Page) (st : RecipeStore) : RecipeStore :=
  { st with slots := st.slots.set n (some p) }

/-- An entry that has become complete ends its fetch (R84). -/
def DirEntry.settle (f : Functions) (e : DirEntry) : DirEntry :=
  if e.full f then { e with fetch := .complete, timer := none } else e

/-- What became of a page at one entry. -/
inductive PageFate where
  | unwanted
  | stored
  | noRoom
  deriving DecidableEq, Repr

/-- A checked page of a needed kind offered to occupied entry i (R90). -/
def storeAt (i : Nat) (p : Page) (rev : Nat) (s : State) : PageFate × State :=
  match s.recipe.entry i with
  | none => (.unwanted, s)
  | some e =>
    match e.page p.kind with
    | some r =>
      if e.live && r.revision != rev then
        (.stored, { s with recipe :=
          (s.recipe.writeSlot r.slot p).setEntry i (some (e.withPage p.kind ⟨r.slot, rev⟩)) })
      else (.unwanted, s)
    | none =>
      let found := s.recipe.roomForPage i
      let s1 := { s with recipe := found.2 }
      match found.1 with
      | none => (.noRoom, appearance aDirectoryFull s1)
      | some n =>
        let e' := (e.withPage p.kind ⟨n, rev⟩).settle s.cfg.functions
        (.stored, { s1 with recipe := (s1.recipe.writeSlot n p).setEntry i (some e') })

/-- The entries of a product that a page is offered to: the LIVE one first, then the RETIRED ones in
rising number (R90). -/
def pageEntries (product : Nat) (st : RecipeStore) : List Nat :=
  let of (live : Bool) := (List.range 32).filter fun i =>
    match st.entry i with
    | some e => e.product == product && e.live == live
    | none => false
  of true ++ of false

/-- A page offered to the entries listed; answers whether any entry found no slot (R90). -/
def storeAll (p : Page) (rev : Nat) : List Nat → Bool × State → Bool × State
  | [], r => r
  | i :: is, (short, s) =>
    let r := storeAt i p rev s
    storeAll p rev is (short || r.1 == .noRoom, r.2)

end Sys2Proof.Machine
end

