-- ==== Sys2Proof/Machine/Flags.lean ====
section
/-! DEFINITION. The station's flags and conditions as functions of its state: proven, run permit,
blockers, LIVE conditions and recovery conditions, and the outputs that follow from the state. -/
namespace Sys2Proof.Machine

/-! ### Link and extraction -/

/-- LINK ISOLATED holds (R13). -/
def isolated (s : State) : Bool := s.link.isolation == 8

/-- An age at which a peer's entry is stale, in ms (R16). -/
def peerStaleAge : Nat := 1000

/-- Extraction is proven for this station (R176, R179, R180). -/
def proven (s : State) : Bool :=
  if s.cfg.functions.hood then s.fume.det.phase == .settled else s.fume.adopted

/-! ### Run permit (R74) -/

/-- A level-7 code withdraws the permit where it stands (R74). -/
def withdraws (a : AlarmUnit) (c : Nat) : Bool :=
  levelOf c == 7 &&
    match a.at c with
    | .idle => false
    | .request | .pending _ => true
    | .inService => alarmLive c || alarmRecovery c != .resetOnly

/-- The run permit is granted (R74). -/
def runPermit (s : State) : Bool :=
  s.running && !(s.board.queue.any fun r => r.state == .blocked)
    && !((List.range 64).any (withdraws s.alarm))

/-! ### STATUS and the peer status table (R15, R16, R56, R179, R185) -/

/-- The fields of a STATUS of a station in JOINING or RUNNING as they now stand, with the blockers and
the admit flag as last computed; start mark 0 (R15, R56, R185). -/
def statusNow (s : State) : StatusFields where
  station := s.loader.station
  functions := s.cfg.functions
  admitFlag := s.board.admitFlag
  readyFor := s.board.head.bind (·.product)
  blockers := s.board.blockers
  hold := !runPermit s
  queueCount := s.board.queue.length
  expectedCount := s.board.expected.length
  highest := s.alarm.highestPending
  pendingCount := s.alarm.pendingCodes.length
  requiredFlow := if s.cfg.functions.hood then s.fume.required else 0
  hoodMax := if s.cfg.functions.hood then s.cfg.fume.hoodMax else 0
  measuredFlow := if s.cfg.functions.hood then s.fume.measured else 0
  proven := proven s
  listIncomplete := s.alarm.incomplete
  discard := s.link.discard
  badCount := s.link.badCount
  startMark := false

/-- Entry n of the peer status table: the own number's holds the station's current values (R16). -/
def peer (s : State) (n : Nat) : Option Peer :=
  if n = s.me then some ⟨statusNow s, 0⟩ else s.link.peers.getD n none

/-- Entry n is fresh; one never heard is stale (R16). -/
def peerFresh (s : State) (n : Nat) : Bool :=
  match peer s n with
  | some p => decide (p.age < peerStaleAge)
  | none => false

/-- PEER STALE holds: the entry of a member other than this station is stale (R16). -/
def peerStale (s : State) : Bool :=
  (List.range 16).any fun n => s.cfg.member n && n != s.me && !peerFresh s n

/-- The adopted proven flag as R179 forms it. -/
def adoptedNow (s : State) : Bool :=
  !isolated s && match peer s s.cfg.cover with
    | some p => decide (p.age < peerStaleAge) && p.status.proven
    | none => false

/-! ### Pot (R155, R159, R164) -/

/-- The grades in force, chip and main (R159). -/
def gradesInForce (s : State) : Nat × Nat :=
  match s.pot.raised with
  | [] => (s.cfg.pot.idleGrade, s.cfg.pot.idleGrade)
  | r :: _ => (if r.enable then r.chip else s.cfg.pot.idleGrade, r.main)

/-- The grades the pumps are driven at (R155). -/
def pumpGrades (s : State) : Nat × Nat :=
  if s.running && s.cfg.functions.pot && s.pot.level != some .lowLow then gradesInForce s else (0, 0)

/-- Either pump is driven above the idle grade (R162). -/
def pumpsAboveIdle (s : State) : Bool :=
  decide (s.cfg.pot.idleGrade < (pumpGrades s).1) || decide (s.cfg.pot.idleGrade < (pumpGrades s).2)

/-- The stale time of the level, in ms (R164). -/
def levelStaleTime : Nat := 300000

/-- The level is verified (R164). -/
def levelVerified (s : State) : Bool := s.pot.avg.isSome && decide (s.pot.age < levelStaleTime)

/-! ### Blockers (R55) -/

/-- Channel k's record. -/
def channel (s : State) (k : Nat) : Option Channel := s.heat.channels[k]?

/-- The HEAT blocker (R55). -/
def blockerHeat (s : State) : Bool :=
  s.cfg.usedChannels.any fun k =>
    match channel s k with
    | none => false
    | some c =>
      c.mode == .faulted || c.mode == .tripped || c.mode == .blind
        || (match s.board.head with
          | some h => c.governing == some h.tag && c.det.phase != .settled
          | none => false)

/-- The RECIPE blocker (R55). -/
def blockerRecipe (s : State) : Bool :=
  match s.board.head with
  | some h => s.recipe.status h.ref != .resolved
  | none => false

/-- The blocker set (R55). -/
def blockersNow (s : State) : Blockers where
  joining := s.loader.station == .joining
  heat := blockerHeat s
  recipe := blockerRecipe s
  level := s.cfg.functions.pot && (s.pot.level == some .lowLow || s.pot.check.isSome)
  extraction := !proven s
  flux := s.cfg.functions.flux && (s.alarm.standing aFluxSupply || s.alarm.standing aFluxTankEmpty)
  alarm := (List.range 64).any fun c => levelOf c == 7 && s.alarm.standing c

/-! ### Conditions reported to the Alarm Controller (R188, R189) -/

/-- The station has the Heat Channels block: HEAT or POT, whose channels it drives (R22; log entry 36). -/
def Image.hasHeaters (img : Image) : Bool := img.functions.heat || img.functions.pot

/-- The flux tank switch conditions (R153). -/
def tankEmpty (s : State) : Bool := s.flux.empty.taken == some true

/-- The exit-bound record is BLOCKED and the last answer was a (R67). -/
def downstream (s : State) (a : Answer) : Bool :=
  match s.board.handoff.bound with
  | none => false
  | some t =>
    match findRecord t s.board.queue with
    | none => false
    | some r => r.state == .blocked && s.board.handoff.last == some a

/-- A reference that holds RECIPE UNAVAILABLE (R85): DEDUCED from 'while', it ceases to where a later resolution
fetches its FAILED entry anew or enters its product, which the list of ends of R85 leaves out (log entry 54). -/
def refUnavailable (st : RecipeStore) : Ref → Bool
  | .unentered _ => true
  | .entry i =>
    match st.entry i with
    | some e => e.fetch == .failed
    | none => false
  | .default | .service _ => false

/-- RECIPE UNAVAILABLE holds (R85). -/
def recipeUnavailable (s : State) : Bool :=
  s.board.expected.any (fun e => refUnavailable s.recipe e.ref)
    || s.board.queue.any (fun r => refUnavailable s.recipe r.ref)

/-- Whether the condition of a LIVE code holds, as its owner's chapter gives it (R188). -/
def liveHolds (s : State) (c : Nat) : Bool :=
  if inLimits 6 c 11 then
    (match channel s (c - 6) with | some ch => ch.mode == .blind | none => false)
  else if c = aMainsMissing then s.running && s.cfg.hasHeaters && s.heat.mainsMissing
  else if c = aDownstreamAbsent then downstream s .none
  else if c = aDownstreamFull then downstream s .defer
  else if c = aRecipeUnavailable then recipeUnavailable s
  else if c = aFluxTankLow then s.flux.low.taken == some true
  else if c = aFluxTankEmpty then tankEmpty s
  else if c = aLevelLow then s.pot.level == some .low
  else if c = aLevelLowLow then s.pot.level == some .lowLow
  else if c = aLevelHigh then s.pot.level == some .high
  else if c = aLevelUnverified then s.cfg.functions.pot && decide (levelStaleTime ≤ s.pot.age)
  else if c = aExtractionLow then s.running && s.cfg.functions.hood && !proven s
  else if c = aExtractionLost then
    s.running && s.cfg.functions.hood && decide (1000 ≤ s.fume.lost)
  else if c = aFilterLoaded then s.fume.loaded
  else if c = aFilterBlocked then s.fume.blocked
  else if c = aLinkIsolated then isolated s
  else if c = aPeerStale then peerStale s
  else if c = aPowerShort then s.allot.short == 10
  else false

/-- Whether a recovery condition holds (R188); OVERTEMP's is reported by its channel (R103). -/
def recoveryHolds (s : State) (c : Nat) : Bool :=
  if c ≤ 5 then
    (match channel s c with | some ch => ch.secondary && ch.lastGood | none => false)
  else if inLimits 24 c 29 then
    (match channel s (c - 24) with | some ch => ch.det.phase == .settled | none => false)
  else if c = aReverseTravel then s.pos.tally == 0
  else if c = aFluxSupply then s.flux.supplyOk
  else if c = aFanNotRunning then s.cfg.functions.fan && s.pins.fanRun
  else false

/-! ### Outputs that follow from the state (R29) -/

/-- The bits that the station drives in the answer slot of the frame it last received (R9). -/
def slotDriven (s : State) : SlotBits := s.link.answer.slotBits

/-- The nozzles that are open (R144). -/
def nozzlesOpen (s : State) : BitVec 8 :=
  match s.flux.nozzle, s.flux.series with
  | some _, some r => r.mask
  | _, _ => 0

/-- The feeder output (R167). -/
def feederOn (s : State) : Bool :=
  match s.pot.feed with
  | .pulse _ => true
  | .ready | .pause _ => false

/-- The chip and main pump references (R155). -/
def pumpReferences (s : State) : Nat × Nat :=
  ((pumpGrades s).1 * 1000 / 255, (pumpGrades s).2 * 1000 / 255)

/-- The entry gate is open (R57). -/
def gateOpen (s : State) : Bool := s.board.gate.isSome

/-- Heater output k is on (R121). -/
def heaterOn (s : State) (k : Nat) : Bool :=
  match channel s k with
  | some c => c.firing
  | none => false

/-- The horn (R202). -/
def hornOn (s : State) : Bool :=
  s.active && s.alarm.list.any fun e => !e.inService && decide (s.cfg.hornLevel ≤ e.level)

/-- The red beacon (R29, R202). -/
def redOn (s : State) : Bool := !s.active || s.alarm.list.any fun e => decide (6 ≤ e.level)

/-- The amber beacon (R202). -/
def amberOn (s : State) : Bool :=
  s.active && (s.alarm.incomplete || s.alarm.list.any fun e => inLimits 3 e.level 5)

/-- The green beacon (R202). -/
def greenOn (s : State) : Bool := s.running && s.alarm.list.isEmpty

/-- The bit rate in kbit/s (R1): a CONFIG FAULT station without a usable field uses 250. -/
def linkRate (s : State) : Nat :=
  match s.loader.image with
  | some img => if img.rate = 2 then 500 else if img.rate = 3 then 1000 else 250
  | none => 250

/-- The line link is driven in the station's state (R1, R18, R23). -/
def linkDriven (s : State) : Bool :=
  s.active || s.loader.station == .configFault

end Sys2Proof.Machine
end

