-- ==== Sys2Proof/Machine/FumeOps.lean ====
section
/-! DEFINITION. Shared operations of the Extraction Monitor and of the pot's pumps: the required flow
and check target, the effects of the proven state, the adopted flag, the fan reference, the quiet
timer (09, 10). -/
namespace Sys2Proof.Machine

/-- The required flow for the queue as it stands (R174). -/
def requiredNow (s : State) : Nat :=
  min s.cfg.fume.hoodMax
    (s.cfg.fume.baseFlow
      + s.cfg.fume.vapourAdd * (s.board.queue.filter fun r => r.volume.isSome).length)

/-- The check target and rise delay timer acting on a new required flow r (R175). -/
def Fume.retarget (riseDelay r : Nat) (f : Fume) : Fume :=
  if r ≤ f.target then { f with required := r, target := r, rise := none }
  else if f.required < r then
    if riseDelay = 0 then { f with required := r, target := r, rise := none }
    else { f with required := r, rise := some 0 }
  else { f with required := r }

/-- What follows a forming of the required flow: a rise delay timer restarted makes an expiry of it that
waits void (R175). -/
def riseRestarted (s : State) : State := if s.fume.rise = some 0 then overtake .riseDelay s else s

/-- The required flow formed again at a HOOD station (R174, R175). -/
def formRequired (s : State) : State :=
  if s.cfg.functions.hood then
    riseRestarted { s with fume := s.fume.retarget s.cfg.fume.riseDelay (requiredNow s) }
  else s

/-- The station has a preheat channel (R181). -/
def hasPreheat (img : Image) : Bool := (List.range 6).any fun k => (img.channel k).fn.preheat

/-- An open pulse is cut: all nozzles close and the nozzle timer is 0 (R144). -/
def cutPulse (s : State) : State := { s with flux := { s.flux with nozzle := none } }

/-- The effects of a change of the proven state from `was` (R180, R181). -/
def provenChanged (was : Bool) (s : State) : State :=
  if proven s = was then s
  else if proven s then { s with fume := { s.fume with grace := none, graceZero := false } }
  else
    let s1 := cutPulse s
    if hasPreheat s.cfg && s.active then
      { s1 with fume := { s1.fume with grace := some 0 } }
    else s1

/-- A station without HOOD forms its adopted flag again (R179). -/
def formAdopted (s : State) : State :=
  if s.cfg.functions.hood then s
  else provenChanged (proven s) { s with fume := { s.fume with adopted := adoptedNow s } }

/-- The isolation count set, with what follows a start or end of LINK ISOLATED (R13, R179). -/
def setIsolation (n : Nat) (s : State) : State :=
  let s1 := { s with link := { s.link with isolation := n } }
  if isolated s1 = isolated s then s1 else formAdopted s1

/-! ### The exhaust fan (R182, R183) -/

/-- The flow of station number n in the fan station's view (R182). -/
def fanFlow (s : State) (n : Nat) : Nat :=
  if n = s.me then (if s.cfg.functions.hood then s.fume.required else 0)
  else if n = s.cfg.panel then 0
  else
    match peer s n with
    | some p =>
      if decide (p.age < peerStaleAge) && !isolated s then p.status.requiredFlow
      else p.status.hoodMax
    | none => if s.cfg.member n then ((s.cfg.assumed[n]?).map (·.hood)).getD 0 else 0

/-- The flow sum (R182). -/
def fanSumNow (s : State) : Nat := ((List.range 16).map (fanFlow s)).sum

/-- The reference on the fan curve for a flow F: the points are given in order (R183). -/
def curveReference (f : Nat) : List CurvePoint → Nat
  | [] => 0
  | [p] => p.reference
  | p :: q :: rest =>
    if f ≤ p.flow then p.reference
    else if f < q.flow then
      ((p.reference : Int)
        + (((q.reference : Int) - p.reference) * ((f : Int) - p.flow)).tdiv
          ((q.flow : Int) - p.flow)).toNat
    else curveReference f (q :: rest)

/-- The flow sum and the fan reference formed at a FAN station; a reference of 0 sets the feedback
timer to 0 (R182, R183, R184). -/
def formFan (s : State) : State :=
  if s.cfg.functions.fan then
    let f := fanSumNow s
    let r := curveReference f s.cfg.fume.curve
    { s with fume := { s.fume with
        fanSum := f
        fanRef := r
        feedback := if r = 0 then 0 else s.fume.feedback } }
  else s

/-! ### The pumps and the quiet timer (R155, R162) -/

/-- After an event that may change a pump's grade: the quiet timer is 0 while either pump is driven
above the idle grade (R162). -/
def touchPumps (s : State) : State :=
  if pumpsAboveIdle s then { s with pot := { s.pot with quiet := 0 } } else s

end Sys2Proof.Machine
end

