-- ==== Sys2Proof/Machine/TrackerOps.lean ====
section
/-! DEFINITION. Shared operations on boards: metering and closing a flux series, removal of a record,
BOARD EXIT, offers and their answers, and insertions into the event schedule (03, 04, 08). -/
namespace Sys2Proof.Machine

/-! ### Flux series (R146 to R152) -/

/-- A tag enters the series list (R139). -/
def markHandled (t : Tag) (s : State) : State :=
  if s.flux.handled.contains t then s
  else { s with flux := { s.flux with handled := s.flux.handled ++ [t] } }

/-- An OPEN series closes: its pending stroke is removed, an open pulse is cut, and it drains from
0 ms (R144, R146, R147). -/
def closeSeries (s : State) : State :=
  match s.flux.series with
  | none => s
  | some r =>
    if r.drain.isSome then s
    else
      { s with
        pos := { s.pos with schedule := withoutEntry r.tag .fluxStroke 0 s.pos.schedule }
        flux := { s.flux with series := some { r with drain := some 0 }, nozzle := none } }

/-- How many nozzles a mask names. -/
def nozzleCount (m : BitVec 8) : Nat := ((List.range 8).filter fun i => m.getLsbD i).length

/-- The expected volume of a series (R150). -/
def Series.expected (r : Series) : Nat := r.fired * nozzleCount r.mask * r.nominal

/-- The delivered volume falls short of the tolerance (R150). -/
def Series.starved (r : Series) : Bool :=
  decide (0 < r.fired) && decide (r.flow * 100 < r.expected * (100 - r.tolerance))

/-- The no-flow count after a metering (R152). -/
def noFlowCount (fl : Flux) (r : Series) : Flux :=
  if r.fired = 0 ∨ r.expected = 0 then fl
  else if r.flow = 0 then { fl with noFlow := min 3 (fl.noFlow + 1), supplyOk := false }
  else { fl with noFlow := 0, supplyOk := true }

/-- The held series metered: its volume written, its checks made, the no-flow count updated, and the
record emptied (R149, R150, R152). -/
def meterSeries (s : State) : State :=
  match s.flux.series with
  | none => s
  | some r =>
    let s1 :=
      if 0 < r.fired then
        formRequired (mapRecord r.tag (fun b => { b with volume := some r.flow }) s)
      else addException r.tag xFluxSkipped 0 s
    let s2 := if r.starved then addException r.tag xFluxStarved 0 s1 else s1
    let s3 := { s2 with flux := { noFlowCount s2.flux r with series := none } }
    if s.flux.noFlow = 2 ∧ s3.flux.noFlow = 3 then appearance aFluxSupply s3 else s3

/-! ### Removal and reports (R54, R73) -/

/-- The Flux Controller's part of a removal (R139, R147). -/
def fluxRemoval (t : Tag) (s : State) : State :=
  let s1 := match s.flux.series with
    | some r => if r.tag = t then closeSeries s else s
    | none => s
  { s1 with flux := { s1.flux with handled := s1.flux.handled.filter fun x => x != t } }

/-- The Pot Controller's part of a removal (R158). -/
def potRemoval (t : Tag) (s : State) : State :=
  touchPumps { s with pot := { s.pot with raised := s.pot.raised.filter fun r => r.tag != t } }

/-- A record leaves the queue, with all that goes with it (R42, R54, R119, R174). -/
def removeRecord (t : Tag) (s : State) : State :=
  match findRecord t s.board.queue with
  | none => s
  | some r =>
    let s1 := releaseRef r.ref { s with
      board := { s.board with
        queue := s.board.queue.filter fun x => x.tag != t
        handoff := if s.board.handoff.bound = some t then Handoff.clear else s.board.handoff }
      pos := { s.pos with schedule := withoutTag t s.pos.schedule }
      heat := { s.heat with notes := s.heat.notes.filter fun n => n.tag != t } }
    formRequired (potRemoval t (fluxRemoval t s1))

/-- A record removed and its BOARD EXIT queued with its contents at the removal (R54, R73). -/
def removeWithExit (t : Tag) (cause : ExitCause) (s : State) : State :=
  match findRecord t s.board.queue with
  | none => s
  | some r => enqueue .tracker allTarget (.boardExit r cause) (removeRecord t s)

/-! ### Offers (R65, R66) -/

/-- BOARD OFFER of a record queued to the downstream station; the offer is outstanding (R65). -/
def offerBoard (t : Tag) (s : State) : State :=
  match findRecord t s.board.queue, s.cfg.downstream with
  | some r, some d =>
    enqueue .tracker (toStation d) (.boardOffer r (s.recipe.status r.ref))
      { s with board := { s.board with handoff := { s.board.handoff with outstanding := true } } }
  | _, _ => s

/-- The answer to an offer of the board with a tag acts on the exit-bound record (R66); an answer
that finds no exit-bound record is dropped. -/
def answerOffer (t : Tag) (a : Answer) (s : State) : State :=
  if s.board.handoff.bound != some t then s
  else
    let seen := s.board.handoff.trailSeen
    let s1 := { s with board := { s.board with
      handoff := { s.board.handoff with outstanding := false, last := some a } } }
    match a with
    | .accept =>
      if seen then removeRecord t s1 else mapRecord t (fun r => { r with state := .offered }) s1
    | .refuse => appearance aHandoffRefused (removeWithExit t .refused s1)
    | .defer | .none =>
      if seen then removeWithExit t .leftUnaccepted s1
      else mapRecord t (fun r => { r with state := .blocked }) s1

/-! ### Insertions (R39, R40) -/

/-- The degraded behaviour of the block that owns a refused kind, for the refusals it is told of
beyond EVENT LOST (R40, R141, R160). -/
def refusedKind (t : Tag) (k : EventKind) (s : State) : State :=
  match k with
  | .fluxStart =>
    if s.flux.handled.contains t then s else markHandled t (addException t xFluxSkipped 0 s)
  | .waveRaise => addException t xWaveLow 0 s
  | .arrivalDeadline | .exitDeadline | .zoneEnter | .zoneLeave | .fluxStroke | .fluxEnd
  | .waveLower => s

/-- An insertion asked for by a block: INSERTED, or REFUSED with EVENT LOST and the owner's degraded
behaviour (R39, R40). The spec does not order the two blocks' requests to the exception list: DESIGN
CHOICE, EVENT LOST is added before the owner's FLUX SKIPPED, FLUX PARTIAL or WAVE LOW (R145, R141, R160;
log entry 39). -/
def insertEvent (t : Tag) (k : EventKind) (q : Nat) (due : Pos) (s : State) : Bool × State :=
  match scheduleInsert s.pos.counter ⟨t, k, q, due⟩ s.pos.schedule with
  | some l => (true, { s with pos := { s.pos with schedule := l } })
  | none => (false, refusedKind t k (addException t xEventLost k.code s))

/-- The insertions of a list, in order, each made whatever became of the others (R62, R64). -/
def insertAll (t : Tag) : List (EventKind × Nat × Pos) → State → State
  | [], s => s
  | (k, q, due) :: es, s => insertAll t es (insertEvent t k q due s).2

/-- The zones whose machine zone number is set, with their indices (R62, R64). -/
def Image.setZones (img : Image) : List (Nat × Zone) :=
  ((List.range 4).map fun z => (z, img.zone z)).filter fun z => z.2.machine != 0

/-- The FLUX page whose margins the tracker reads (R62, R64). -/
def marginPage (t : Tag) (s : State) : FluxPage := (boardFlux t s).getD s.cfg.fluxPage

/-- The entries of R62 for a record whose leading edge is at `lead`. -/
def enterEvents (t : Tag) (lead : Pos) (s : State) : List (EventKind × Nat × Pos) :=
  let g := s.cfg.geometry
  let f := s.cfg.functions
  [(.exitDeadline, 0, offset lead (g.exitDistance + g.exitTol))]
    ++ (s.cfg.setZones.map fun z => (.zoneEnter, z.1, offset lead z.2.start))
    ++ (if f.flux then [(.fluxStart, 0, offset lead (g.fluxPos + (marginPage t s).lead))] else [])
    ++ (if f.pot then [(.waveRaise, 0, offsetBack (offset lead g.wavePos) g.raiseLead)] else [])

/-- The entries of R64 for a record whose trailing edge is at `trail`. -/
def leaveEvents (t : Tag) (trail : Pos) (s : State) : List (EventKind × Nat × Pos) :=
  let g := s.cfg.geometry
  let f := s.cfg.functions
  (s.cfg.setZones.map fun z => (.zoneLeave, z.1, offset trail z.2.stop))
    ++ (if f.flux then
        [(.fluxEnd, 0, offsetBack (offset trail g.fluxPos) (marginPage t s).tail)] else [])
    ++ (if f.pot then [(.waveLower, 0, offset trail (g.wavePos + g.lowerLag))] else [])

/-! ### The entry sensor (R60, R61, R63) -/

/-- The next local tag: the first after the last assigned that no record holds, wrapping from 65,535
to 65,280 (R61). -/
def nextLocal (last : Nat) (q : List BoardRecord) : Nat :=
  let after (i : Nat) : Nat := 65280 + (last + 1 + i - 65280) % 256
  (((List.range 256).map after).find? fun t => (findRecord t q).isNone).getD (after 0)

/-- A stray made at a leading edge (R61). -/
def makeStray (lead : Pos) (s : State) : State :=
  let s1 := appearance aStrayBoard s
  if 8 ≤ s1.board.queue.length then s1
  else
    let t := nextLocal s1.board.lastLocal s1.board.queue
    let r : BoardRecord := ⟨t, none, true, 0, some lead, none, .entering, .default, none, [], false⟩
    let s2 := { s1 with board := { s1.board with
      queue := placeRecord r s1.board.queue, lastLocal := t } }
    let s3 := addException t xRecipeDefaulted 0 s2
    insertAll t (enterEvents t lead s3) s3

/-- An entry leading edge (R59, R60, R61). -/
def entryLeading (lead : Pos) (s : State) : State :=
  let s1 := { s with board := { s.board with gate := none } }
  match s1.board.queue.find? fun r => r.state == .inbound with
  | none => makeStray lead s1
  | some r =>
    let s2 := { s1 with board := { s1.board with
      queue := placeRecord { r with state := .entering, lead := some lead }
        (s1.board.queue.filter fun x => x.tag != r.tag) } }
    insertAll r.tag (enterEvents r.tag lead s2) s2

/-- The spacing mark set at an entry trailing edge, absent at once when already far enough behind
(R57, R63). -/
def setSpacing (p : Pos) (s : State) : State :=
  if s.cfg.functions.entry then
    { s with board := { s.board with
        spacing := if reachedBy s.pos.counter p s.cfg.geometry.minSpacing then none else some p } }
  else s

/-- A record given its trail: state, measured length and LENGTH MISMATCH (R63). -/
def BoardRecord.trailed (tol me : Nat) (lead trail : Pos) (r : BoardRecord) : BoardRecord :=
  let measured := (trail - lead).toNat
  let r1 := { r with
    trail := some trail, state := if r.state = RecordState.entering then RecordState.inside else r.state }
  let r2 := if r.length ≠ 0 ∧ tol < ((measured : Int) - r.length).natAbs then
    r1.addException ⟨xLengthMismatch, 0, me⟩ else r1
  { r2 with length := measured }

/-- An entry trailing edge (R63, R64). -/
def entryTrailing (trail : Pos) (s : State) : State :=
  let s1 := setSpacing trail s
  match s1.board.queue.find? fun r => r.lead.isSome && r.trail.isNone with
  | none => s1
  | some r =>
    let s2 := mapRecord r.tag
      (BoardRecord.trailed s.cfg.geometry.lengthTol s.me (r.lead.getD 0) trail) s1
    insertAll r.tag (leaveEvents r.tag trail s2) s2

/-! ### The exit sensor (R65, R68) -/

/-- An exit leading edge (R65). -/
def exitLeading (s : State) : State :=
  match s.board.queue.find? fun r => r.state == .entering || r.state == .inside with
  | none => s
  | some r =>
    if s.board.handoff.bound.isSome then s
    else if s.cfg.downstream.isNone then mapRecord r.tag (fun x => { x with state := .finishing }) s
    else
      offerBoard r.tag { s with board := { s.board with handoff := ⟨some r.tag, true, false, none⟩ } }

/-- An exit trailing edge (R68): the cases in the table's order (log entry 11). -/
def exitTrailing (s : State) : State :=
  match s.board.queue.find? fun r => r.state == .finishing with
  | some r => removeWithExit r.tag .done s
  | none =>
    match s.board.handoff.bound with
    | none => s
    | some t =>
      match findRecord t s.board.queue with
      | none => s
      | some r =>
        if r.state = .offered then removeRecord t s
        else if r.state = .blocked then removeWithExit t .leftUnaccepted s
        else if s.board.handoff.outstanding then
          { s with board := { s.board with handoff := { s.board.handoff with trailSeen := true } } }
        else s

/-! ### Deadlines (R71, R72) -/

/-- An ARRIVAL DEADLINE fires (R59, R71). -/
def arrivalDeadline (t : Tag) (s : State) : State :=
  let s1 := if s.board.gate = some t then { s with board := { s.board with gate := none } } else s
  match findRecord t s1.board.queue with
  | none => s1
  | some r =>
    if r.state = .inbound then
      appearance aBoardMissing (removeWithExit t .arrivalDeadline s1)
    else s1

/-- An EXIT DEADLINE fires (R72). -/
def exitDeadline (t : Tag) (s : State) : State :=
  match findRecord t s.board.queue with
  | none => s
  | some r =>
    if (r.state = .entering ∨ r.state = .inside) ∧ s.board.handoff.bound ≠ some t then
      appearance aBoardMissing (removeWithExit t .exitDeadline s)
    else s

end Sys2Proof.Machine
end

