-- ==== Sys2Proof/Machine/StatusOps.lean ====
section
/-! DEFINITION. STATUS as the station gathers and queues it, the reports of alarm conditions and the
announcements that end a command and stand between the fired entries of a run (R15, R55, R56, R189,
R192). -/
namespace Sys2Proof.Machine

/-! ### STATUS (R15, R55, R56, R185) -/

/-- The fields of a STATUS as gathered, with the start mark given (R15). -/
def gatherStatus (mark : Bool) (s : State) : StatusFields := { statusNow s with startMark := mark }

/-- The blockers and the admit flag computed (R55). -/
def computeBlockers (s : State) : State :=
  { s with board := { s.board with
      blockers := blockersNow s
      admitFlag := s.running && blockersNow s == Blockers.empty } }

/-- A STATUS gathered and queued, which restarts the status period; an expiry of it that waits is void
(R15, R55). Whether the discard that the queueing itself causes in a full queue (R11) is in the discard field is
open: DESIGN CHOICE, the fields are gathered first, so it is not (log entry 53). -/
def queueStatus (mark : Bool) (s : State) : State :=
  let s1 := computeBlockers s
  let s2 := enqueue .link allTarget (.status (gatherStatus mark s1)) s1
  overtake .statusPeriod { s2 with link := { s2.link with statusAge := some 0 } }

/-- The STATUS of CONFIG FAULT (R15, R24). -/
def configFaultFields (s : State) : StatusFields where
  station := .configFault
  functions := if s.loader.imageOk then s.cfg.functions else ⟨false, false, false, false, false, false⟩
  admitFlag := false
  readyFor := none
  blockers := Blockers.empty
  hold := true
  queueCount := 0
  expectedCount := 0
  highest := none
  pendingCount := 0
  requiredFlow := 0
  hoodMax := 0
  measuredFlow := 0
  proven := false
  listIncomplete := false
  discard := 0
  badCount := 0
  startMark := false

/-- A CONFIG FAULT STATUS queued; its 1 s period restarts (R24). -/
def queueConfigStatus (s : State) : State :=
  let s1 := enqueue .link allTarget (.status (configFaultFields s)) s
  { s1 with link := { s1.link with statusAge := some 0 } }

/-! ### Announcement (R192) -/

/-- The requested codes that may be announced. -/
def candidates (img : Image) (a : AlarmUnit) : List Nat :=
  (List.range 64).filter fun c => a.at c == .request && !img.masked c

/-- The highest level of a list of codes. -/
def highestLevel (l : List Nat) : Option Nat :=
  (l.map levelOf).foldl (fun m n => some (match m with | none => n | some k => max k n)) none

/-- The first code of level L among the candidates, from the pointer of L upward, wrapping (R192). -/
def pickAt (a : AlarmUnit) (cs : List Nat) (l : Nat) : Option Nat :=
  ((List.range 64).map fun i => (a.rot.getD l 0 + i) % 64).find? fun c => cs.contains c && levelOf c == l

/-- The code that a judgement announces, if it announces one (R192). -/
def pickRequest (img : Image) (a : AlarmUnit) : Option Nat :=
  match highestLevel (candidates img a) with
  | none => none
  | some l =>
    match a.highestPending with
    | some h => if h < l then pickAt a (candidates img a) l else none
    | none => pickAt a (candidates img a) l

/-- The announcement of a picked code (R192). -/
def announcePick (c : Nat) (s : State) : State :=
  let s1 := { s with alarm := { s.alarm with rot := s.alarm.rot.set (levelOf c) ((c + 1) % 64) } }
  if levelOf c = 0 then
    settleInService c (announce c true false (joinInService c s1))
  else
    queueStatus false
      (announce c false false { s1 with alarm := s1.alarm.move c (.pending false) })

/-- Announcement judged again and again until a judgement announces nothing (R192). -/
def announceAll : Nat → State → State
  | 0, s => s
  | n + 1, s =>
    match pickRequest s.cfg s.alarm with
    | none => s
    | some c => announceAll n (announcePick c s)

/-! ### Reports at the end of a command (R189; log entries 8, 9, 10) -/

/-- The report of one code's condition or recovery condition as it now stands. -/
def reportCode (c : Nat) (s : State) : State :=
  if alarmLive c then reportLive c (liveHolds s c) s
  else if alarmRecovery c = .condition ∧ ¬(18 ≤ c ∧ c ≤ 23) then reportRecovery c (recoveryHolds s c) s
  else s

/-- The reports of the codes listed, in order. -/
def reportCodes : List Nat → State → State
  | [], s => s
  | c :: cs, s => reportCodes cs (reportCode c s)

/-- Every condition and recovery condition reported, in code order; OVERTEMP's recovery is reported by
its channel at its sample (R103). -/
def syncAlarms (s : State) : State := reportCodes (List.range 58) s

/-- The NONE of the offers dropped by R11 given to the tracker (R11, R66). -/
def deliverDropped (s : State) : State :=
  s.link.offersDropped.foldl (fun s t => answerOffer t .none s)
    { s with link := { s.link with offersDropped := [] } }

/-- One pass of what ends a command: dropped offers answered, conditions reported, announcements. -/
def settleOnce (s : State) : State := announceAll 64 (syncAlarms (deliverDropped s))

/-- What follows an event in JOINING and RUNNING, a fired entry, an edge or a whole command: passes until
nothing more follows (R189, R192; log entry 8). -/
def finish (s : State) : State :=
  if s.active then settleOnce (settleOnce (settleOnce s)) else s

end Sys2Proof.Machine
end

