-- ==== Sys2Proof/Machine/EventOps.lean ====
section
/-! DEFINITION. What each kind of position event does, the sensor edges, and the run that fires the
schedule and hands over the edges (03, 6.7, 8.2 to 8.4, 9.1). -/
namespace Sys2Proof.Machine

/-! ### Flux events (R141 to R147) -/

/-- A series held for an earlier board is closed when open and metered at once (R142). -/
def preemptSeries (s : State) : State := meterSeries (closeSeries s)

/-- The board's reference is a service reference. -/
def serviceBoard (t : Tag) (s : State) : Bool :=
  match findRecord t s.board.queue with
  | some r => (match r.ref with | .service _ => true | .entry _ | .default | .unentered _ => false)
  | none => false

/-- A series opened for a board with its plan, and its first stroke asked for at the counter (R141). -/
def openSeries (t : Tag) (p : FluxPage) (s : State) : State :=
  let s1 := preemptSeries s
  let series : Series := ⟨t, none, p.mask, p.pulse, p.nominal, p.tolerance,
    if serviceBoard t s then some p.pitch else none, 0, 0⟩
  let s2 := markHandled t { s1 with flux := { s1.flux with series := some series } }
  let r := insertEvent t .fluxStroke 0 s2.pos.counter s2
  if r.1 then r.2 else closeSeries (addException t xFluxPartial 0 r.2)

/-- A board that gets no series: FLUX SKIPPED, and its tag in the series list (R141). -/
def skipFlux (t : Tag) (s : State) : State := markHandled t (addException t xFluxSkipped 0 s)

/-- FLUX START (R141, R142). -/
def fluxStart (t : Tag) (s : State) : State :=
  if s.flux.handled.contains t then s
  else
    let s1 := firstUse t s
    match boardFlux t s1 with
    | none => skipFlux t s1
    | some p => if !proven s1 || tankEmpty s1 then skipFlux t s1 else openSeries t p s1

/-- A stroke of the open series judged: skipped, or fired (R143). -/
def judgeStroke (r : Series) (s : State) : State :=
  if s.flux.nozzle.isSome then appearance aStrokeOverrun (addException r.tag xFluxPartial 0 s)
  else if !proven s || tankEmpty s then addException r.tag xFluxPartial 0 s
  else
    { s with flux := { s.flux with
        nozzle := some 0, series := some { r with fired := min 65535 (r.fired + 1) } } }

/-- The pitch of the next stroke: held, or read from the board's FLUX page now (R145). -/
def strokePitch (r : Series) (s : State) : Nat :=
  match r.heldPitch with
  | some p => p
  | none => ((boardFlux r.tag s).getD s.cfg.fluxPage).pitch

/-- FLUX STROKE at its due position (R143, R145, R147). -/
def fluxStroke (t : Tag) (due : Pos) (s : State) : State :=
  match s.flux.series with
  | none => s
  | some r =>
    if r.tag = t ∧ r.drain = none then
      let s1 := judgeStroke r s
      let ins := insertEvent t .fluxStroke 0 (offset due (strokePitch r s1)) s1
      if ins.1 then ins.2 else closeSeries (addException t xFluxPartial 0 ins.2)
    else s

/-- The controller holds an OPEN series for the tag. -/
def openFor (t : Tag) (s : State) : Bool :=
  match s.flux.series with
  | some r => r.tag == t && r.drain.isNone
  | none => false

/-- FLUX END (R146). -/
def fluxEnd (t : Tag) (s : State) : State :=
  if openFor t s then closeSeries s
  else if s.flux.handled.contains t then s
  else
    skipFlux t
      { s with pos := { s.pos with schedule := withoutEntry t .fluxStart 0 s.pos.schedule } }

/-! ### Wave events (R157, R158) -/

/-- WAVE RAISE (R157, R161). -/
def waveRaise (t : Tag) (s : State) : State :=
  if s.pot.raised.any fun r => r.tag == t then s
  else
    let s1 := firstUse t s
    match boardWave t s1 with
    | none => s1
    | some p =>
      let s2 := { s1 with pot := { s1.pot with
        raised := s1.pot.raised ++ [⟨t, p.chip, p.main, p.enable⟩] } }
      touchPumps (if s2.pot.level = some .lowLow then addException t xWaveLost 0 s2 else s2)

/-- WAVE LOWER (R158). -/
def waveLower (t : Tag) (s : State) : State := potRemoval t s

/-! ### Zone events (R117, R118, R120) -/

/-- The channels of a zone (R117). -/
def Image.zoneChannels (img : Image) (z : Nat) : List Nat :=
  img.usedChannels.filter fun k => (img.channel k).zone == z

/-- The board is a profiling board (R120). -/
def profiling (t : Tag) (s : State) : Bool :=
  match findRecord t s.board.queue with
  | some r => (match r.ref with
    | .service n => (s.cfg.service n).profiling
    | .entry _ | .default | .unentered _ => false)
  | none => false

/-- What PROFILE says of a channel (R120). -/
def profileChannel (s : State) (k : Nat) : ProfileChannel :=
  match channel s k with
  | some c => ⟨k, (s.cfg.channel k).fn, c.measured, c.lastGood⟩
  | none => ⟨k, (s.cfg.channel k).fn, 0, false⟩

/-- PROFILE queued for a profiling board's event in a zone that has a channel (R120). -/
def profileEvent (t : Tag) (enter : Bool) (z : Nat) (s : State) : State :=
  if profiling t s && !(s.cfg.zoneChannels z).isEmpty then
    enqueue .heat (toStation s.cfg.panel)
      (.profile ⟨t, enter, z, (s.cfg.zone z).machine, s.pos.counter,
        (s.cfg.zoneChannels z).map (profileChannel s)⟩) s
  else s

/-- What a note keeps of a channel (R117). -/
def noteOf (s : State) (k : Nat) : NoteChannel :=
  match channel s k with
  | some c => ⟨k, c.unsettled, c.limited, c.heldFlag⟩
  | none => ⟨k, 0, 0, false⟩

/-- The zone note of a board and a zone. -/
def ZoneNote.is (t : Tag) (z : Nat) (n : ZoneNote) : Bool := n.tag == t && n.zone == z

/-- ZONE ENTER (R117). -/
def zoneEnter (t : Tag) (z : Nat) (s : State) : State :=
  if (s.cfg.zoneChannels z).isEmpty then s
  else
    let s1 := firstUse t s
    profileEvent t true z
      { s1 with heat := { s1.heat with
          notes := (s1.heat.notes.filter fun n => !n.is t z)
            ++ [⟨t, z, (s1.cfg.zoneChannels z).map (noteOf s1)⟩] } }

/-- A channel has been disturbed since it was noted (R118). -/
def disturbed (s : State) (n : NoteChannel) : Bool :=
  match channel s n.ch with
  | some c => c.unsettled != n.unsettled || !n.heldFlag
  | none => false

/-- A channel has been cut by the power share since it was noted (R118). -/
def powerCut (s : State) (n : NoteChannel) : Bool :=
  match channel s n.ch with
  | some c => c.limited != n.limited
  | none => false

/-- The comparison of a ZONE LEAVE with its note, which is then removed (R118). The spec does not order the
two requests: DESIGN CHOICE, ZONE DISTURBED is asked for first (log entry 41). -/
def judgeNote (t : Tag) (z : Nat) (n : ZoneNote) (s : State) : State :=
  let s1 := if n.channels.any (disturbed s) then
    addException t xZoneDisturbed (s.cfg.zone z).machine s else s
  let s2 := if n.channels.any (powerCut s) then
    addException t xPowerLimited (s.cfg.zone z).machine s1 else s1
  { s2 with heat := { s2.heat with notes := s2.heat.notes.filter fun m => !m.is t z } }

/-- ZONE LEAVE (R118). -/
def zoneLeave (t : Tag) (z : Nat) (s : State) : State :=
  profileEvent t false z
    (match s.heat.notes.find? (ZoneNote.is t z) with
      | none => s
      | some n => judgeNote t z n s)

/-! ### Firing (R41) -/

/-- A fired entry handed to its owner (R37, R41). -/
def fireEvent (e : Event) (s : State) : State :=
  match e.kind with
  | .arrivalDeadline => arrivalDeadline e.tag s
  | .exitDeadline => exitDeadline e.tag s
  | .zoneEnter => zoneEnter e.tag e.qualifier s
  | .zoneLeave => zoneLeave e.tag e.qualifier s
  | .fluxStart => fluxStart e.tag s
  | .fluxStroke => fluxStroke e.tag e.due s
  | .fluxEnd => fluxEnd e.tag s
  | .waveRaise => waveRaise e.tag s
  | .waveLower => waveLower e.tag s

/-- The head removed and fired (R41). -/
def fireHead (s : State) : State :=
  match s.pos.schedule with
  | [] => s
  | e :: es => fireEvent e { s with pos := { s.pos with schedule := es } }

/-- A taken edge: its sensor, LEADING or TRAILING, and its position (R36). -/
structure Edge where
  sensor  : Sensor
  leading : Bool
  at_     : Pos
  deriving DecidableEq, Repr

/-- An edge handed to the Board Tracker (R36, R60, R63, R65, R68). -/
def deliverEdge (e : Edge) (s : State) : State :=
  match e.sensor, e.leading with
  | .entry, true => entryLeading e.at_ s
  | .entry, false => entryTrailing e.at_ s
  | .exit, true => exitLeading s
  | .exit, false => exitTrailing s

/-- Which of n things comes next: the only one, or a free choice (R36, R41; log entry 5). -/
def freeIndex (n : Nat) (s : State) : Nat × State :=
  if n ≤ 1 then (0, s)
  else (Config.freeChoice s.freeCount % n, { s with freeCount := s.freeCount + 1 })

/-- The number of things that may be handed over next: the edges that wait, and the head when it is
due. -/
def waiting (es : List Edge) (s : State) : Nat :=
  es.length + (headDue s.pos.counter s.pos.schedule).toNat

/-- The next thing handed over, an edge that waits or the head, in an order that R36 and R41 leave free:
the edges left, and the state after its handling. -/
def handOver (es : List Edge) (s : State) : List Edge × State :=
  let c := freeIndex (waiting es s) s
  match es[c.1]? with
  | some e => (es.eraseIdx c.1, deliverEdge e c.2)
  | none => (es, fireHead c.2)

/-- The edges of a counter advance and the due entries, each handed over in turn. What the handling before
made is reported and announced first (R192: each is an event of its own); `fuel` bounds the run (log
entries 8 and 26). -/
def runSchedule : Nat → List Edge → State → State
  | 0, _, s => s
  | fuel + 1, es, s =>
    if waiting es s = 0 then s
    else
      let s1 := finish s
      if waiting es s1 = 0 then s1
      else
        let r := handOver es s1
        runSchedule fuel r.1 r.2

/-- The run after a handling that may have inserted entries or taken edges; nothing fires and no edge
acts outside RUNNING (R26, R36, R39, R41). -/
def runEvents (es : List Edge) (s : State) : State :=
  if s.running then runSchedule 256 es s else s

end Sys2Proof.Machine
end

