-- ==== Sys2Proof/Machine/AdmissionOps.lean ====
section
/-! DEFINITION. Admission at the entry gate: whether every member is ready for the head's product, and
the gate opened (R57, R58). -/
namespace Sys2Proof.Machine

/-- Member n is ready for the head's product (R57). -/
def memberReady (s : State) (h : Expected) (n : Nat) : Bool :=
  n == s.me ||
    match peer s n with
    | some p =>
      decide (p.age < peerStaleAge) && p.status.admitFlag
        && (p.status.readyFor == none || p.status.readyFor == h.product)
    | none => false

/-- Every condition for opening the gate holds for the head h (R57). -/
def mayAdmit (s : State) (h : Expected) : Bool :=
  s.cfg.functions.entry && s.running && s.board.gate.isNone
    && decide (s.board.queue.length < 8)
    && !(s.board.queue.any fun r => r.state == .inbound || r.state == .entering)
    && (match s.board.spacing with
      | none => true
      | some p => reachedBy s.pos.counter p s.cfg.geometry.minSpacing)
    && s.board.admitFlag
    && (List.range 16).all fun n => !s.cfg.member n || memberReady s h n

/-- The record made from the head entry (R58). -/
def recordOf (h : Expected) : BoardRecord :=
  ⟨h.tag, h.product, false, h.length, none, none, .inbound, h.ref, none, [], false⟩

/-- The gate opened for the head entry (R58). -/
def openGate (h : Expected) (s : State) : State :=
  let s1 := { s with board := { s.board with
    queue := placeRecord (recordOf h) s.board.queue
    expected := s.board.expected.filter fun e => e.tag != h.tag
    gate := some h.tag } }
  let g := s.cfg.geometry
  let s2 := (insertEvent h.tag .arrivalDeadline 0
    (offset s.pos.counter (g.gateDistance + g.arrivalTol)) s1).2
  enqueue .tracker allTarget (.admitted h.tag) s2

/-- Admission judged (R57); an entry already due fires once the handling is complete (R39). -/
def judgeAdmission (s : State) : State :=
  match s.board.head with
  | none => s
  | some h => if mayAdmit s h then runEvents [] (openGate h s) else s

end Sys2Proof.Machine
end

