-- ==== Sys2Proof/Machine/HeatOps.lean ====
section
/-! DEFINITION. One heat sample of one channel: the sample judged, the trip, the governing board and
the setpoint, the detector, regulation and the applied duty (06). -/
namespace Sys2Proof.Machine

/-! ### The sample (R98, R99, R100) -/

/-- The value of a good sample; none for a fault sample (R98). -/
def Channel.goodValue (r : Reading) (c : Channel) : Option Int :=
  match r with
  | .openCircuit => none
  | .value v =>
    if v < -500 ∨ 6500 < v then none
    else if c.refd ∧ 150 < (v - c.measured).natAbs then none
    else some v

/-- A good sample taken (R98, R100). -/
def Channel.takeGood (v : Int) (c : Channel) : Channel :=
  let run := min 3 (c.goodRun + 1)
  { c with
    measured := v, lastGood := true, refd := true, faultRun := 0, goodRun := run
    lost := c.lost && decide (run < 3) }

/-- A fault sample that is not the third in a run (R98). -/
def Channel.takeFault (c : Channel) : Channel :=
  { c with lastGood := false, faultRun := c.faultRun + 1, goodRun := 0 }

/-- A sensor fault that switches to the secondary (R99). -/
def Channel.switched (c : Channel) : Channel :=
  { c with secondary := true, refd := false, faultRun := 0, goodRun := 0, lastGood := false }

/-- A sensor fault that marks the sensor lost (R100). -/
def Channel.sensorLost (c : Channel) : Channel :=
  { c with lost := true, refd := false, faultRun := 0, goodRun := 0, lastGood := false }

/-- The sensor fault of this channel switches it (R99). -/
def Channel.canSwitch (cfg : ChannelCfg) (c : Channel) : Bool := !c.secondary && cfg.secondary.isSome

/-- The sample of a channel judged: the channel after it, and whether it switched (R98 to R100). -/
def Channel.sample (cfg : ChannelCfg) (r : Reading) (c : Channel) : Channel × Bool :=
  match c.goodValue r with
  | some v => (c.takeGood v, false)
  | none =>
    if c.faultRun + 1 < 3 then (c.takeFault, false)
    else if c.canSwitch cfg then (c.switched, true)
    else (c.sensorLost, false)

/-- The input that is the channel's sensor in use (R97, R99). -/
def Channel.sensor (cfg : ChannelCfg) (c : Channel) : Nat :=
  if c.secondary then cfg.secondary.getD cfg.primary else cfg.primary

/-- The sample step of channel k (R98 to R100). -/
def sampleStep (tc : List Reading) (k : Nat) (c : Channel) (s : State) : State :=
  let cfg := s.cfg.channel k
  let r := c.sample cfg (tc.getD (c.sensor cfg) .openCircuit)
  let s1 := modChannel k (fun _ => r.1) s
  if r.2 then appearance (aSensorSwitched k) s1 else s1

/-! ### The trip (R103) -/

/-- A good sample against the absolute limit: the trip latch, and OVERTEMP at a new trip (R103). -/
def tripStep (k : Nat) (s : State) : State :=
  match channel s k with
  | none => s
  | some c =>
    if c.lastGood ∧ ((s.cfg.channel k).limit : Int) ≤ c.measured ∧ ¬c.trip then
      appearance (aOvertemp k) (modChannel k (fun c => { c with trip := true }) s)
    else s

/-- The recovery of OVERTEMP judged at a good sample and reported (R103, R196). -/
def coolStep (k : Nat) (s : State) : State :=
  match channel s k with
  | none => s
  | some c =>
    if c.lastGood then
      let cool :=
        if ((s.cfg.channel k).limit : Int) - 50 ≤ c.measured then false
        else c.cool || s.alarm.at (aOvertemp k) == .inService
      reportRecovery (aOvertemp k) cool (modChannel k (fun c => { c with cool := cool }) s)
    else s

/-! ### Governing board and setpoint (R104, R105, R106) -/

/-- The page value for a channel; 0 is none (R104). -/
def pageValue (img : Image) (k : Nat) (p : HeatPage) : Nat :=
  let z := (img.zone (img.channel k).zone).machine
  match (img.channel k).fn with
  | .preheatTop => p.top.getD (z - 1) 0
  | .preheatBottom => p.bottom.getD (z - 1) 0
  | .pot => p.pot
  | .unused => 0

/-- The end point of a channel (R104). -/
def endPoint (img : Image) (k : Nat) : Nat :=
  match (img.channel k).fn with
  | .preheatTop | .preheatBottom => (img.zone (img.channel k).zone).stop
  | .pot | .unused => img.geometry.wavePos

/-- The value a reference gives channel k, none when it gives no page or 0 (R104). -/
def refValue (s : State) (k : Nat) (r : Ref) : Option Nat :=
  match refHeat r s with
  | none => none
  | some p => if pageValue s.cfg k p = 0 then none else some (pageValue s.cfg k p)

/-- The value a record gives channel k while it has not passed the end point (R104). -/
def recordValue (s : State) (k : Nat) (r : BoardRecord) : Option (Tag × Nat) :=
  let passed := match r.trail with
    | none => false
    | some t => reached s.pos.counter (offset t (endPoint s.cfg k))
  if passed then none else (refValue s k r.ref).map fun v => (r.tag, v)

/-- The governing board of channel k and its page value (R104). -/
def governingOf (s : State) (k : Nat) : Option (Tag × Nat) :=
  match s.board.queue.findSome? (recordValue s k) with
  | some g => some g
  | none => s.board.expected.findSome? fun e => (refValue s k e.ref).map fun v => (e.tag, v)

/-- The setpoint candidate (R105). -/
def Channel.candidate (cfg : ChannelCfg) (g : Option (Tag × Nat)) (c : Channel) : Nat :=
  match g with
  | some b => b.2
  | none => (match c.idle with | .done => cfg.setback | .off | .running _ => c.setpoint)

/-- A changed setpoint restarts the detector, and a raise of more than the guard step starts the ramp
guard (R106, R111). -/
def Channel.setTo (guardStep v : Nat) (c : Channel) : Channel :=
  if v = c.setpoint then c
  else
    { c with
      setpoint := v, det := Detector.cold, heldFlag := false, armed := true
      guarded := c.guarded || decide (c.setpoint + guardStep < v) }

/-- The governing board taken: the idle timer and the setpoint (R104, R105). -/
def Channel.govern (cfg : ChannelCfg) (guardStep : Nat) (g : Option (Tag × Nat)) (c : Channel) : Channel :=
  let c1 := c.setTo guardStep (c.candidate cfg g)
  { c1 with
    governing := g.map (·.1)
    idle := match g, c.idle with
      | some _, _ => .off
      | none, .off => .running 0
      | none, i => i }

/-! ### The detector (R109, R110, R112) -/

/-- A good sample given to the channel's detector (R109, R110, R112); in BLIND and FAULTED the
detector is held. -/
def Channel.settle (p : DetParams) (c : Channel) : Channel :=
  if !c.lastGood || c.mode.holds then c
  else
    let d := c.det.feed p (bandTwoSided p c.measured c.setpoint)
    let settledNow := d.phase == .settled && c.det.phase != .settled
    let lostNow := c.det.lostTo d
    { c with
      det := d
      heldFlag := if lostNow then false else c.heldFlag || (settledNow && c.armed)
      armed := if lostNow || settledNow then false else c.armed
      guarded := c.guarded && !(d.phase == .confirming && c.det.phase != .confirming) }

/-- The unsettled-sample count after the detector has acted (R112). -/
def Channel.countUnsettled (c : Channel) : Channel :=
  if c.det.phase = .settled then c else { c with unsettled := (c.unsettled + 1) % 65536 }

/-- The detector step of channel k, with SETTLE LOST at a loss (R112). -/
def settleStep (k : Nat) (s : State) : State :=
  match channel s k with
  | none => s
  | some c =>
    let c1 := c.settle s.cfg.heatDet
    let s1 := modChannel k (fun _ => c1.countUnsettled) s
    if c.det.lostTo c1.det then settleLost k s1 else s1

/-! ### Regulation (R107, R113 to R116) -/

/-- The guard ceiling (R106). -/
def Channel.guardCeiling (c : Channel) : Nat := if c.guarded then 500 else 1000

/-- The extraction ceiling (R107). -/
def extractionCeiling (fn : ChFunction) (graceZero : Bool) : Nat :=
  if fn.preheat && graceZero then 0 else 1000

/-- The error, clamped (R113). -/
def Channel.error (c : Channel) : Int :=
  max (-2000) (min 2000 ((c.setpoint : Int) - c.measured))

/-- The proportional term (R113). -/
def Channel.proportional (cfg : ChannelCfg) (c : Channel) : Int := ((cfg.kp : Int) * c.error).tdiv 10

/-- The integrator after its update (R114). -/
def Channel.integrate (cfg : ChannelCfg) (missing : Bool) (c : Channel) : Nat :=
  if missing || (decide (0 < c.error) && c.limUp) || (decide (c.error < 0) && c.limDown) then c.iacc
  else (max 0 (min 256000 ((c.iacc : Int) + (cfg.ki : Int) * c.error))).toNat

/-- The output before its clamp, P + floor(Iacc / 256) (R115). -/
def Channel.rawOutput (cfg : ChannelCfg) (iacc : Nat) (c : Channel) : Int :=
  c.proportional cfg + ((iacc / 256 : Nat) : Int)

/-- The clamp to 0...1000. -/
def clampDuty (v : Int) : Nat := (max 0 (min 1000 v)).toNat

/-- The cap's limit on the applied duty, floor(h x 1000 / rated) (R116). -/
def capDuty (cfg : ChannelCfg) (h : Nat) : Nat := h * 1000 / cfg.rated

/-- The power-limited count of a sample (R116). -/
def Channel.countLimited (cut : Bool) (c : Channel) : Channel :=
  if cut then { c with limited := (c.limited + 1) % 65536 } else c

/-- A sample in REGULATING (R101, R113 to R116, R122). -/
def Channel.regulate (cfg : ChannelCfg) (h : Nat) (graceZero missing : Bool) (c : Channel) : Channel :=
  let iacc := c.integrate cfg missing
  let raw := c.rawOutput cfg iacc
  let u := clampDuty raw
  let ext := extractionCeiling cfg.fn graceZero
  let ceiling := min c.guardCeiling ext
  let uc := if missing then 0 else min u ceiling
  let a := min uc (capDuty cfg h)
  { c.countLimited (decide (a < uc) || (ext == 0 && decide (0 < min u c.guardCeiling))) with
    iacc := iacc
    uc := uc
    duty := a
    history := c.history.drop 1 ++ [a]
    limUp := if missing then c.limUp else decide (1000 < raw) || decide (ceiling < u) || decide (a < uc)
    limDown := if missing then c.limDown else decide (raw < 0) }

/-- A sample in BLIND (R115, R116). -/
def Channel.holdDuty (cfg : ChannelCfg) (h : Nat) (graceZero missing : Bool) (c : Channel) : Channel :=
  let ext := extractionCeiling cfg.fn graceZero
  let uc := if missing then 0 else min c.held (min c.guardCeiling ext)
  let a := min uc (capDuty cfg h)
  { c.countLimited (decide (a < uc) || (ext == 0 && decide (0 < c.held))) with uc := uc, duty := a }

/-- The output of a sample by mode (R115, R116). -/
def Channel.drive (cfg : ChannelCfg) (h : Nat) (graceZero missing : Bool) (c : Channel) : Channel :=
  match c.mode with
  | .regulating => c.regulate cfg h graceZero missing
  | .blind => c.holdDuty cfg h graceZero missing
  | .idle | .tripped | .faulted => { c with uc := 0, duty := 0 }

/-! ### The whole sample of a channel -/

/-- One sample of channel k, in the order of chapter 6 (log entry 35). -/
def channelSample (tc : List Reading) (k : Nat) (s : State) : State :=
  match channel s k with
  | none => s
  | some c =>
    let s1 := rederive k (coolStep k (tripStep k (sampleStep tc k c s)))
    let cfg := s.cfg.channel k
    let s2 := settleStep k
      (modChannel k (Channel.govern cfg s.cfg.guardStep (governingOf s1 k)) s1)
    modChannel k (Channel.drive cfg (s2.allot.caps.getD k 0) s2.fume.graceZero s2.heat.mainsMissing) s2

/-- The samples of the channels listed, in order. -/
def samplesOf (tc : List Reading) : List Nat → State → State
  | [], s => s
  | k :: ks, s => samplesOf tc ks (channelSample tc k s)

/-! ### Firing (R121, R122) -/

/-- A channel at a rising zero-cross (R121). -/
def Channel.fireCycle (c : Channel) : Channel :=
  if 1000 ≤ c.acc + c.duty then { c with acc := c.acc + c.duty - 1000, firing := true }
  else { c with acc := c.acc + c.duty, firing := false }

/-- A channel when mains goes missing (R122). -/
def Channel.mainsLost (c : Channel) : Channel :=
  { c with uc := 0, duty := 0, acc := 0, firing := false }

/-- The Heat Channels block takes part: JOINING or RUNNING, with HEAT or POT (log entry 36). -/
def heatActs (s : State) : Bool := s.active && s.cfg.hasHeaters

end Sys2Proof.Machine
end

