-- ==== Sys2Proof/Machine/PowerOps.lean ====
section
/-! DEFINITION. One own power round: demand, grants, caps, ages and POWER SHORT (07). -/
namespace Sys2Proof.Machine

/-- q of channel k: ceil(rated x u_c / 1000) (R126). -/
def channelDemand (s : State) (k : Nat) : Nat :=
  match channel s k with
  | some c => ((s.cfg.channel k).rated * c.uc + 999) / 1000
  | none => 0

/-- The channels of a power class: POT in class 0, the preheat functions in class 1 (R126). -/
def Image.classChannels (img : Image) (class0 : Bool) : List Nat :=
  img.usedChannels.filter fun k => ((img.channel k).fn == .pot) == class0

/-- The own demand of a class (R126). -/
def ownDemand (class0 : Bool) (s : State) : Nat :=
  ((s.cfg.classChannels class0).map (channelDemand s)).sum

/-- The own declared maximum of a class (R126). -/
def Image.ownMaximum (class0 : Bool) (img : Image) : Nat :=
  ((img.classChannels class0).map fun k => (img.channel k).rated).sum

/-- An age at which a peer's demand is stale, in own rounds (R129). -/
def demandStaleAge : Nat := 3

/-- A class demand of station n as the grant computation uses it (R130). -/
def viewDemand (class0 : Bool) (s : State) (n : Nat) : Nat :=
  if n = s.me then ownDemand class0 s
  else
    match s.allot.view.getD n none with
    | some d =>
      if d.age < demandStaleAge ∧ ¬isolated s then (if class0 then d.d0 else d.d1)
      else (if class0 then d.m0 else d.m1)
    | none =>
      if s.cfg.member n then
        ((s.cfg.assumed[n]?).map fun a => if class0 then a.class0 else a.class1).getD 0
      else 0

/-- One entry's grant, its demand scaled when the class asks for more than there is (R131, R132). -/
def grantOf (avail total d : Nat) : Nat := if total ≤ avail then d else d * avail / total

/-- The class demands of the view, by station number. -/
def viewDemands (class0 : Bool) (s : State) : List Nat := (List.range 16).map (viewDemand class0 s)

/-- The grants of a class over the view, from what is available to it (R131, R132). -/
def grants (avail : Nat) (ds : List Nat) : List Nat := ds.map (grantOf avail ds.sum)

/-- The class 0 grants over the view (R131). -/
def grants0 (s : State) : List Nat := grants s.cfg.supplyLimit (viewDemands true s)

/-- What class 0 leaves (R132). -/
def remainder (s : State) : Nat := s.cfg.supplyLimit - (grants0 s).sum

/-- The class 1 grants over the view (R132). -/
def grants1 (s : State) : List Nat := grants (remainder s) (viewDemands false s)

/-- A channel's cap from its class's grant (R133). -/
def capOf (g q total : Nat) : Nat := if total ≤ g then q else q * g / total

/-- The cap of channel k (R133). -/
def channelCap (s : State) (g0 g1 k : Nat) : Nat :=
  match (s.cfg.channel k).fn with
  | .unused => 0
  | .pot => capOf g0 (channelDemand s k) (ownDemand true s)
  | .preheatTop | .preheatBottom => capOf g1 (channelDemand s k) (ownDemand false s)

/-- A peer entry aged by one round (R129). -/
def Demand.older (d : Demand) : Demand := { d with age := min 255 (d.age + 1) }

/-- The POWER SHORT count after a round (R135). -/
def shortCount (count d0 d1 g0 g1 : Nat) : Nat :=
  if g0 < d0 ∨ g1 < d1 then min 10 (count + 1) else 0

/-- Step 2 of a round: HEAT DEMAND queued (R125, R127). -/
def queueDemand (s : State) : State :=
  enqueue .allotment allTarget
    (.heatDemand (ownDemand true s) (ownDemand false s) (s.cfg.ownMaximum true)
      (s.cfg.ownMaximum false)) s

/-- Steps 3 to 5 of a round, from the values it was begun with (R125, R131 to R135). -/
def allotRound (s : State) : Allot :=
  let g0 := (grants0 s).getD s.me 0
  let g1 := (grants1 s).getD s.me 0
  { view := s.allot.view.map fun d => d.map Demand.older
    g0 := g0
    g1 := g1
    caps := (List.range 6).map (channelCap s g0 g1)
    short := shortCount s.allot.short (ownDemand true s) (ownDemand false s) g0 g1
    roundAge := some 0 }

/-- An own power round (R125). -/
def ownRound (s : State) : State := { queueDemand s with allot := allotRound s }

end Sys2Proof.Machine
end

