-- ==== Sys2Proof/Machine/PotOps.lean ====
section
/-! DEFINITION. The level sample and feeding of the Pot Controller, and the flow sample of the
Extraction Monitor (9.2 to 9.4, 10.1). -/
namespace Sys2Proof.Machine

/-- The Pot Controller takes part: JOINING or RUNNING, with POT. -/
def potActs (s : State) : Bool := s.active && s.cfg.functions.pot

/-- The hood check takes part: JOINING or RUNNING, with HOOD. -/
def hoodActs (s : State) : Bool := s.active && s.cfg.functions.hood

/-! ### The level sample (R162 to R166) -/

/-- The quiet time, in ms (R162). -/
def quietTime : Nat := 3000

/-- The ring after a quiet reading (R163). -/
def ringPush (r : Nat) (ring : List Nat) : List Nat :=
  (if 16 ≤ ring.length then ring.drop 1 else ring) ++ [r]

/-- The level state of a quiet average (R166). -/
def levelOfAverage (p : PotCfg) (v : Nat) : LevelState :=
  if p.high ≤ v then .high else if p.low ≤ v then .normal else if p.lowLow ≤ v then .low else .lowLow

/-- A level check after a quiet sample: it ends with the ring full and ten samples taken (R165). -/
def checkAfter (full : Bool) : Option Nat → Option Nat
  | none => none
  | some n => if full && decide (10 ≤ n + 1) then none else some (n + 1)

/-- A quiet reading taken: ring, average, age, level check and level state (R163 to R166). -/
def Pot.takeQuiet (p : PotCfg) (r : Nat) (t : Pot) : Pot :=
  let ring := ringPush r t.ring
  let full := ring.length == 16
  let avg := if full then some (ring.sum / 16) else t.avg
  { t with
    ring := ring
    avg := avg
    age := 0
    check := checkAfter full t.check
    level := if full then avg.map (levelOfAverage p) else t.level }

/-- A feed pulse cut by HIGH or LOW-LOW: the melt pause starts in full (R167). -/
def FeedPhase.cut : FeedPhase → FeedPhase
  | .pulse _ => .pause 0
  | p => p

/-- WAVE LOST for every raised board (R161). -/
def waveLostAll (s : State) : State :=
  s.pot.raised.foldl (fun s r => addException r.tag xWaveLost 0 s) s

/-- What follows a change of the level state from `was` (R161, R167). -/
def levelChanged (was : Option LevelState) (s : State) : State :=
  if s.pot.level = was then s
  else
    let s1 :=
      if s.pot.level = some .high ∨ s.pot.level = some .lowLow then
        { s with pot := { s.pot with feed := s.pot.feed.cut } }
      else s
    touchPumps (if s.pot.level = some .lowLow then waveLostAll s1 else s1)

/-- The level sample itself (R162, R163); a quiet one sets the level age to 0, so that an expiry of it
that waits is void (R164, R165). -/
def takeLevel (level : Reading) (s : State) : State :=
  match readingWithin level 1000 with
  | none => s
  | some r =>
    if quietTime ≤ s.pot.quiet then
      levelChanged s.pot.level (overtake .levelStale (overtake .levelCheck
        { s with pot := s.pot.takeQuiet s.cfg.pot r }))
    else s

/-! ### Feeding (R168, R170) -/

/-- Feed is wanted (R168). -/
def feedWanted (s : State) : Bool :=
  match s.pot.avg with
  | none => false
  | some v => decide (v < s.cfg.pot.feedOn) || (decide (v < s.cfg.pot.feedOff) && s.pot.feedRun)

/-- The POT channels (R168). -/
def Image.potChannels (img : Image) : List Nat :=
  img.usedChannels.filter fun k => (img.channel k).fn == .pot

/-- The station has a POT channel, and each has its detector in CONFIRMING or SETTLED (R168). -/
def potReady (s : State) : Bool :=
  !s.cfg.potChannels.isEmpty && s.cfg.potChannels.all fun k =>
    match channel s k with
    | some c => c.det.phase != .unsettled
    | none => false

/-- Every gate of R168 is open. -/
def feedGates (s : State) : Bool :=
  levelVerified s && potReady s && decide (0 < s.pot.budget) && !s.alarm.standing aFeedRunaway
    && s.pot.level != some .high && s.pot.level != some .lowLow

/-- The judgement of R168 and R170, made in RUNNING with the feeder READY. -/
def judgeFeed (s : State) : State :=
  if s.running && s.pot.feed == .ready then
    if feedWanted s then
      if feedGates s then
        { s with pot := { s.pot with feed := .pulse 0, budget := s.pot.budget - 1, feedRun := true } }
      else if s.pot.budget == 0 && !s.pot.runaway then
        appearance aFeedRunaway { s with pot := { s.pot with runaway := true } }
      else s
    else
      match s.pot.avg with
      | some v =>
        if s.cfg.pot.feedOff ≤ v then { s with pot := { s.pot with feedRun := false } } else s
      | none => s
  else s

/-! ### The flow sample (R173, R176 to R178) -/

/-- The lost timer runs: RUNNING, a target above 0 and a flow below a quarter of it (R177). -/
def lostRuns (s : State) : Bool :=
  s.running && s.cfg.functions.hood && decide (0 < s.fume.target)
    && decide (s.fume.measured < s.fume.target / 4)

/-- The lost timer set to 0 by a sample at which it does not run (R177). -/
def judgeLost (s : State) : State :=
  if lostRuns s then s else { s with fume := { s.fume with lost := 0 } }

/-- The filter reading; a fault is taken as 5000 (R178). -/
def filterReading (r : Reading) : Nat := (readingWithin r 5000).getD 5000

/-- The flow and the filter pressure taken and given to the detector and the filter levels
(R173, R176, R178). -/
def Fume.take (img : Image) (flow pressure : Reading) (f : Fume) : Fume :=
  let m := (readingWithin flow 2000).getD 0
  let p := filterReading pressure
  { f with
    measured := m
    det := f.det.feed img.fumeDet (bandOneSided img.fumeDet m f.target)
    filter := p
    loaded := decide (img.fume.filterWarn ≤ p)
    blocked := decide (img.fume.filterBlock ≤ p)
    sampleAge := some 0 }

/-- The flow sample (R173, R176 to R178, R180). -/
def takeFlow (flow pressure : Reading) (s : State) : State :=
  judgeLost
    (provenChanged (proven s) { s with fume := s.fume.take s.cfg flow pressure })

end Sys2Proof.Machine
end

