-- ==== Sys2Proof/Machine/RestartOps.lean ====
section
/-! DEFINITION. Entry to JOINING from LOADING, the warm restart, and entry to RUNNING (02, and the
reset rules of each chapter). -/
namespace Sys2Proof.Machine

/-- The grace timer at an entry to JOINING (R181, R186, R187). -/
def startGrace (s : State) : State :=
  if hasPreheat s.cfg && !proven s then
    { s with fume := { s.fume with grace := some 0, graceZero := false } }
  else s

/-- The tank switches take their levels from their inputs on entry to JOINING (R153). -/
def takeTanks (s : State) : State :=
  if s.cfg.functions.flux then
    { s with flux := { s.flux with
        low := ⟨some s.pins.tankLow, none⟩, empty := ⟨some s.pins.tankEmpty, none⟩ } }
  else s

/-- The sample periods and the power round start on entry to JOINING (R98, R125, R162, R173). -/
def startPeriods (s : State) : State :=
  { s with
    heat := { s.heat with sampleAge := if s.cfg.hasHeaters then some 0 else none }
    allot := { s.allot with roundAge := some 0 }
    pot := { s.pot with sampleAge := if s.cfg.functions.pot then some 0 else none }
    fume := { s.fume with sampleAge := if s.cfg.functions.hood then some 0 else none } }

/-- The ACK button as its debounce first reads it in JOINING (R201; log entry 17). -/
def ackAtStart (pressed : Bool) : AckPhase := if pressed then .spent else .released 0

/-- Every block at its values on entry to JOINING from LOADING with an accepted image (R25, R36, R153,
R165, R171, R186, R201). -/
def joiningBlocks (img : Image) (s : State) : State :=
  { s with
    loader := { s.loader with station := .joining, image := some img, imageOk := true, roundCount := 0 }
    pos := { s.pos with entryS := ⟨s.pins.entry, none⟩, exitS := ⟨s.pins.exitS, none⟩ }
    heat := Heat.cold img
    pot := { Pot.cold img with check := if img.functions.pot then some 0 else none }
    fume := Fume.cold img
    alarm := { s.alarm with ack := ackAtStart s.pins.ack } }

/-- Entry to JOINING from LOADING (R25). No rule orders its STATUS against the first reports of the LIVE
conditions: DESIGN CHOICE, it is gathered first (R55, R203, log entry 47). -/
def enterJoining (img : Image) (s : State) : State :=
  queueStatus true (startGrace (takeTanks (startPeriods (joiningBlocks img s))))

/-! ### Warm restart (R30) -/

/-- The Link Controller at a warm restart: a frame in transmission is completed for no block (R17). -/
def Link.warm (l : Link) : Link :=
  { l with
    queue := (l.queue.filter (·.inTx)).map fun e => { e with orphan := true }
    isolation := 0
    statusAge := none
    offersDropped := [] }

/-- The Position Unit at a warm restart (R33, R36, R43, R45). -/
def PosUnit.warm (p : PosUnit) : PosUnit := { p with schedule := [], snapshot := none }

/-- The Board Tracker at a warm restart (R75). -/
def Tracker.warm (b : Tracker) : Tracker :=
  { b with gate := none, spacing := none, handoff := Handoff.clear }

/-- A directory entry at a warm restart (R96). -/
def DirEntry.warm (e : DirEntry) : DirEntry :=
  { e with timer := none, fetch := if e.fetch = .fetching then .failed else e.fetch }

/-- The Recipe Store at a warm restart (R96). -/
def RecipeStore.warm (st : RecipeStore) : RecipeStore :=
  { st with dir := st.dir.map fun e => e.map DirEntry.warm }

/-- The Allotment Unit at a warm restart (R138). -/
def Allot.warm (a : Allot) : Allot :=
  { a with g0 := 0, g1 := 0, caps := List.replicate 6 0, short := 0, roundAge := none }

/-- The Flux Controller at a warm restart (R154). -/
def Flux.warm (f : Flux) : Flux :=
  { f with series := none, nozzle := none, handled := [], noFlow := 0
           low := ⟨none, none⟩, empty := ⟨none, none⟩ }

/-- The Pot Controller at a warm restart (R172). -/
def Pot.warm (p : Pot) : Pot := { p with raised := [], feed := .ready, feedRun := false }

/-- The Extraction Monitor at a warm restart (R187). R187 does not name the flow sum: DESIGN CHOICE, `fanSum`
is kept (log entry 48). -/
def Fume.warm (f : Fume) : Fume :=
  { f with det := Detector.cold, target := f.required, rise := none, lost := 0, feedback := 0
           grace := none, graceZero := false }

/-- The Alarm Controller at a warm restart (R204). -/
def AlarmUnit.warm (me : Nat) (a : AlarmUnit) : AlarmUnit :=
  let l := a.list.filter fun e => e.origin != me
  { a with
    place := List.replicate 64 .idle
    rot := List.replicate 8 0
    list := l
    incomplete := a.incomplete && !l.isEmpty }

/-- Every block at its warm-restart values, the station in JOINING (R25, R30). -/
def warmBlocks (s : State) : State :=
  { s with
    loader := { s.loader with station := .joining, roundCount := 0 }
    link := s.link.warm
    pos := s.pos.warm
    board := s.board.warm
    recipe := s.recipe.warm
    heat := Heat.cold s.cfg
    allot := s.allot.warm
    flux := s.flux.warm
    pot := s.pot.warm
    fume := s.fume.warm
    alarm := s.alarm.warm s.me }

/-- The codes listed that are LIVE, whose condition flag is set and which are idle join the request set. -/
def AlarmUnit.raiseStanding : List Nat → AlarmUnit → AlarmUnit
  | [], a => a
  | c :: cs, a =>
    AlarmUnit.raiseStanding cs
      (if alarmLive c && a.flag c && a.at c == .idle then a.move c .request else a)

/-- Each LIVE code whose condition flag is set joins the request set on entry to JOINING (R204). -/
def joinStanding (s : State) : State := { s with alarm := s.alarm.raiseStanding (List.range 58) }

/-- The new appearance of REVERSE TRAVEL that a warm restart makes (R33). -/
def reverseAgain (s : State) : State :=
  if 50 ≤ s.pos.tally then appearance aReverseTravel s else s

/-- A warm restart and the entry to JOINING that follows it: the STATUS with start mark 1 is queued
before anything is announced (R30, R204). No rule orders that STATUS against the LIVE codes that join the
request set: DESIGN CHOICE, it is gathered first (R55, log entry 47). -/
def warmRestart (s : State) : State :=
  reverseAgain (joinStanding (syncAlarms
    (queueStatus true (startGrace (takeTanks (startPeriods (warmBlocks s)))))))

/-! ### Entry to RUNNING (R27) -/

/-- The station enters RUNNING: the channels take their modes, the pumps the grade in force, and a
STATUS is queued at once (R27, R102, R155; log entry 22). -/
def enterRunning (s : State) : State :=
  queueStatus false
    (touchPumps (rederiveAll { s with loader := { s.loader with station := .running } }))

/-- The Image Loader's count of a completed own round in JOINING (R25). -/
def countRound (s : State) : State :=
  if s.loader.station = .joining then
    let s1 := { s with loader := { s.loader with roundCount := s.loader.roundCount + 1 } }
    if 2 ≤ s1.loader.roundCount then enterRunning s1 else s1
  else s

end Sys2Proof.Machine
end

