-- ==== Sys2Proof/Machine/FrameOps.lean ====
section
/-! DEFINITION. Receiving a frame: the check, who takes it, what its owning block does with it, and the
answer driven (R4 to R6, R13, R14, and the frame rules of each chapter). -/
namespace Sys2Proof.Machine

/-! ### Alarm frames (R198) -/

/-- ALARM RAISE taken (R198, R199). For a level-0 code whose state byte is not 2, R199 gives the entry both the
frame's state and IN-SERVICE: DESIGN CHOICE, the frame's state (log entry 45). -/
def takeAlarmRaise (f : Rx) (s : State) : Answer × State :=
  let code := byteAt f.body 0
  let level := byteAt f.body 1
  if f.src.toNat = s.cfg.panel ∨ 57 < code ∨ alarmLevel code ≠ some level then (.refuse, s)
  else
    let e : LineEntry := ⟨f.src.toNat, code, level, byteAt f.body 2 == 2, flagAt f.body 3⟩
    (.accept, { s with alarm := s.alarm.enter e })

/-- The code an ALARM ACK names, if it is specific (R206). -/
def ackCode (b : List Byte) : Option Nat := if b.length = 2 then some (byteAt b 1) else none

/-- An ALARM ACK that is answered REFUSE (R198). -/
def ackRefused (panel : Nat) (b : List Byte) : Bool :=
  byteAt b 0 == panel || (match ackCode b with | some c => inLimits 58 c 63 | none => false)

/-- ALARM ACK taken. -/
def takeAlarmAck (f : Rx) (s : State) : Answer × State :=
  if ackRefused s.cfg.panel f.body then (.refuse, s)
  else (.accept, applyAck (byteAt f.body 0) (ackCode f.body) s)

/-- ALARM CLEAR taken. -/
def takeAlarmClear (f : Rx) (s : State) : Answer × State :=
  if f.src.toNat = s.cfg.panel then (.refuse, s)
  else (.accept, { s with alarm := s.alarm.strike (LineEntry.is f.src.toNat (byteAt f.body 0)) })

/-! ### Board frames (R47 to R50, R69, R70) -/

/-- The expected entry of a tag, of either mark. -/
def findExpected (t : Tag) (s : State) : Option Expected := s.board.expected.find? fun e => e.tag == t

/-- The expected entry of a tag leaves the list and its reference is released (R48, R50). -/
def dropExpected (t : Tag) (s : State) : State :=
  match findExpected t s with
  | none => s
  | some e =>
    releaseRef e.ref { s with board := { s.board with
      expected := s.board.expected.filter fun x => x.tag != t } }

/-- The record of an accepted offer created (R70). -/
def acceptOffer (body : List Byte) (s : State) : State :=
  let r := offerRecord body
  let s1 := dropExpected r.tag s
  let res := resolve r.product s1
  let s2 := { res.2 with board := { res.2.board with
    queue := placeRecord { r with ref := res.1 } res.2.board.queue } }
  let g := s.cfg.geometry
  let s3 := (insertEvent r.tag .arrivalDeadline 0
    (offset s2.pos.counter (g.gap + g.arrivalTol)) s2).2
  runEvents [] (if r.volume.isSome then formRequired s3 else s3)

/-- The answer to a BOARD OFFER (R69). -/
def offerAnswer (f : Rx) (s : State) : Answer :=
  if s.cfg.upstream ≠ some f.src.toNat then .refuse
  else if s.loader.station = .joining then .defer
  else if (findRecord (field f.body 0 2) s.board.queue).isSome then .refuse
  else if 8 ≤ s.board.queue.length then .defer
  else .accept

/-- BOARD OFFER taken. -/
def takeBoardOffer (f : Rx) (s : State) : Answer × State :=
  let a := offerAnswer f s
  (a, if a = .accept then acceptOffer f.body s else s)

/-- The entry of a tag marked ADMITTED (R49). -/
def Expected.markAdmitted (t : Tag) (e : Expected) : Expected :=
  if e.tag == t then { e with admitted := true } else e

/-- ADMITTED taken (R49). -/
def takeAdmitted (f : Rx) (s : State) : Answer × State :=
  let heardEntry := match peer s f.src.toNat with
    | some p => p.status.functions.entry
    | none => false
  if heardEntry then
    (.accept, { s with board := { s.board with
      expected := s.board.expected.map (Expected.markAdmitted (field f.body 0 2)) } })
  else (.refuse, s)

/-- BOARD EXIT taken (R50). -/
def takeBoardExit (f : Rx) (s : State) : Answer × State :=
  (.accept, dropExpected (field f.body 0 2) s)

/-- The answer to a BOARD NOTICE, its cases in order (R47). -/
def noticeAnswer (t : Tag) (s : State) : Answer :=
  if 65280 ≤ t then .refuse
  else if (findExpected t s).isSome then .refuse
  else if (findRecord t s.board.queue).isSome then .refuse
  else if 16 ≤ s.board.expected.length then .defer
  else .accept

/-- A notice appended, its product resolved (R47). -/
def appendNotice (t : Tag) (p : Product) (len : Nat) (s : State) : State :=
  let res := resolve p s
  { res.2 with board := { res.2.board with
    expected := res.2.board.expected ++ [⟨t, p, len, false, res.1⟩] } }

/-- BOARD NOTICE taken (R47). -/
def takeBoardNotice (f : Rx) (s : State) : Answer × State :=
  let t := field f.body 0 2
  let a := noticeAnswer t s
  (a, if a = .accept then appendNotice t (productAt f.body 2) (field f.body 5 3) s else s)

/-- BOARD WITHDRAW taken (R48). -/
def takeBoardWithdraw (f : Rx) (s : State) : Answer × State :=
  let t := field f.body 0 2
  if (findExpected t s).isSome then (.accept, dropExpected t s)
  else if (findRecord t s.board.queue).isSome then (.refuse, s)
  else (.accept, s)

/-! ### Recipe frames (R89 to R91) -/

/-- RECIPE PAGE taken (R77, R89, R90). -/
def takeRecipePage (f : Rx) (s : State) : Answer × State :=
  match recipePageBody f.body, productAt f.body 0 with
  | none, _ => (.refuse, s)
  | some _, none => (.accept, s)
  | some p, some c =>
    if isServiceCode c then (.refuse, s)
    else if !s.cfg.functions.needs p.kind then (.accept, s)
    else
      let r := storeAll p (field f.body 4 2) (pageEntries c s.recipe) (false, s)
      (if r.1 then .defer else .accept, r.2)

/-- The LIVE entry of a product retired, and freed at once without a reference (R80, R91). -/
def RecipeStore.retire (p : Nat) (st : RecipeStore) : RecipeStore :=
  match st.liveEntry p with
  | none => st
  | some i =>
    match st.entry i with
    | none => st
    | some e => if e.count = 0 then st.free i e else st.setEntry i (some { e with live := false })

/-- RECIPE WITHDRAW taken (R91). -/
def takeRecipeWithdraw (f : Rx) (s : State) : Answer × State :=
  match productAt f.body 0 with
  | none => (.accept, s)
  | some c =>
    if isServiceCode c then (.refuse, s) else (.accept, { s with recipe := s.recipe.retire c })

/-! ### HEAT DEMAND (R128) -/

/-- The entry a HEAT DEMAND makes, at age 0. -/
def demandOf (b : List Byte) : Demand := ⟨field b 0 2, field b 2 2, field b 4 2, field b 6 2, 0⟩

/-- The four values may be entered (R128). -/
def Demand.enterable (d : Demand) : Bool :=
  decide (d.m0 ≤ 480) && decide (d.m1 ≤ 480) && decide (d.d0 ≤ d.m0) && decide (d.d1 ≤ d.m1)

/-- HEAT DEMAND taken (R128). -/
def takeHeatDemand (f : Rx) (s : State) : Answer × State :=
  if (demandOf f.body).enterable ∧ f.src.toNat ≠ s.cfg.panel then
    (.accept, { s with allot := { s.allot with
      view := s.allot.view.set f.src.toNat (some (demandOf f.body)) } })
  else (.refuse, s)

/-! ### STATUS (R16, R200) -/

/-- What a STATUS does to the line alarm list (R200). -/
def alignList (n : Nat) (f : StatusFields) (a : AlarmUnit) : AlarmUnit :=
  let a1 := if f.pendingCount = 0 then a.strike fun e => e.origin == n && !e.inService else a
  if f.station = .configFault ∨ f.startMark then a1.strike fun e => e.origin == n && e.inService
  else a1

/-- STATUS taken: the list first, then the peer's entry, the adopted flag, the fan and admission
(R16, R57, R179, R182, R200). The flow sum is formed at a STATUS of any other source, the panel's number
included, whose entry the sum leaves out (DESIGN CHOICE, log entry 42). -/
def takeStatus (f : Rx) (s : State) : Answer × State :=
  let n := f.src.toNat
  let st := statusBody f.body
  let s1 := { s with
    alarm := alignList n st s.alarm
    link := { s.link with peers := s.link.peers.set n (some ⟨st, 0⟩) } }
  let s2 := if n = s.cfg.cover then formAdopted s1 else s1
  let s3 := formFan s2
  (.accept, if s.cfg.member n then judgeAdmission s3 else s3)

/-! ### SNAPSHOT (R44) -/

/-- The values a snapshot latches (R44). -/
def latchValues (n : Nat) (s : State) : Snapshot where
  number := n
  counter := s.pos.counter
  temps := (List.range 6).map fun k =>
    if (s.cfg.channel k).fn = .unused then none else (channel s k).map (·.measured)
  duties := (List.range 6).map fun k => ((channel s k).map (·.duty)).getD 0
  quiet := match s.pot.avg, s.pot.level with
    | some v, some l => if s.cfg.functions.pot then some (v, l) else none
    | _, _ => none
  flow := if s.cfg.functions.hood then some s.fume.measured else none

/-- SNAPSHOT taken (R44). -/
def takeSnapshot (f : Rx) (s : State) : Answer × State :=
  if s.pos.snapshot.isSome then (.defer, s)
  else
    let v := latchValues (byteAt f.body 0) s
    (.accept, enqueue .position (toStation s.cfg.panel) (.snapshotReport v)
      { s with pos := { s.pos with snapshot := some v } })

/-! ### RESTART (R28) -/

/-- RESTART taken (R28, R30). -/
def takeRestart (s : State) : Answer × State :=
  if s.board.queue.isEmpty then (.accept, warmRestart s) else (.refuse, s)

/-! ### Receiving -/

/-- A taken frame handed to the block that owns its kind (R3, R5). The kinds aimed at the panel are
taken by no station. -/
def handleFrame (k : Kind) (f : Rx) (s : State) : Answer × State :=
  match k with
  | .alarmRaise => takeAlarmRaise f s
  | .alarmAck => takeAlarmAck f s
  | .boardOffer => takeBoardOffer f s
  | .alarmClear => takeAlarmClear f s
  | .admitted => takeAdmitted f s
  | .boardExit => takeBoardExit f s
  | .boardNotice => takeBoardNotice f s
  | .boardWithdraw => takeBoardWithdraw f s
  | .recipePage => takeRecipePage f s
  | .recipeWithdraw => takeRecipeWithdraw f s
  | .heatDemand => takeHeatDemand f s
  | .status => takeStatus f s
  | .snapshot => takeSnapshot f s
  | .restart => takeRestart s
  | .recipeRequest | .snapshotReport | .profile => (.refuse, s)

/-- The station drives an answer when the target is ALL or this station (R5, R6). -/
def drives (f : Rx) (s : State) : Bool := f.target == allTarget || f.target == toStation s.me

/-- The station takes the frame (R5, R6). -/
def takesFrame (k : Kind) (f : Rx) (s : State) : Bool :=
  !(k.panelOnly && f.src.toNat != s.cfg.panel) &&
    match k.form with
    | .all => f.target == allTarget
    | .one => f.target == toStation s.me
    | .panel => false
    | .allOrOne => f.target == allTarget || decide (f.target.toNat < 16)

/-- The answer given to the frame just read, whose bits are driven in its slot (R9, slotDriven). -/
def driveAnswer (a : Answer) (s : State) : State := { s with link := { s.link with answer := a } }

/-- A bad frame: counted, and nothing driven in its slot (R4). -/
def countBad (s : State) : State :=
  { s with link := { s.link with badCount := (s.link.badCount + 1) % 256, answer := .none } }

/-- A valid frame of another node, after it has set the isolation count to 0: taken and acted on, or
answered REFUSE by the stations that would answer it (R5, R6). -/
def receiveOther (k : Kind) (f : Rx) (s : State) : State :=
  if takesFrame k f s then
    let r := handleFrame k f s
    driveAnswer (if drives f s then r.1 else .none) r.2
  else driveAnswer (if drives f s then .refuse else .none) s

/-- A valid frame (R13, R14). The spec does not order what it does to the isolation count and what its owning
block does: DESIGN CHOICE, the count is set to 0 first (log entry 43). Nor does R194 order an acknowledgement of
code 53 against the end of LINK ISOLATED by the same frame: DESIGN CHOICE, the acknowledgement acts first
(log entry 49). -/
def receiveValid (k : Kind) (f : Rx) (s : State) : State :=
  let s1 := setIsolation 0 s
  if f.src.toNat = s.me then driveAnswer .none (appearance aNumberConflict s1)
  else receiveOther k f s1

/-- A frame of known kind heard whole with a correct CRC: in JOINING and RUNNING it is checked for its
length and received; in the other states nothing is read (R4, R5, R24). -/
def receive (k : Kind) (f : Rx) (s : State) : State :=
  if s.active then
    if k.lengthOk f.body.length then receiveValid k f s else countBad s
  else s

end Sys2Proof.Machine
end

