-- ==== Sys2Proof/Machine/Reset.lean ====
section
/-! DEFINITION. The commands of reset and start-up (02): COLD_RESET, RESET_RELEASE, STRAP_SAMPLE,
START_IMAGE_READ_COMPLETE, CONFIG_FAULT_STATUS_PERIOD. -/
namespace Sys2Proof.Machine

/-- What a meaning answers. -/
abbrev Result := Host.Outcome State Fault Refusal

/-- Every block at its cold-reset values, the station in the state given; the inputs, the free values
read and the waiting commands stay (R18, R29). -/
def coldState (st : StationState) (s : State) : State :=
  { State.reset with
    loader := Loader.cold st, pins := s.pins, freeCount := s.freeCount, pending := s.pending }

/-- The least width of a RESET pulse that always resets, in ns (R208). -/
def resetAlways : Nat := 10000

/-- The width under which a RESET pulse is ignored, in ns (R208). -/
def resetIgnored : Nat := 1000

/-- The supply under which the monitor holds the station in reset, in mV (R208). -/
def supplyThreshold : Nat := 2900

/-- The level of the supply as the monitor sees it. -/
def setSupply (mv : Nat) (s : State) : State := { s with pins := { s.pins with supply := mv } }

/-- COLD_RESET (R18, R208): a supply applied resets, and one that falls resets under the threshold. -/
def execColdReset (cause : ResetCause) (s : State) : Result :=
  match cause with
  | .supplyApplied mv => .next (coldState .inReset (setSupply mv s))
  | .supplyLow mv =>
    if mv < supplyThreshold then .next (coldState .inReset (setSupply mv s)) else .next (setSupply mv s)
  | .resetPin ns =>
    if resetAlways ≤ ns then .next (coldState .inReset s)
    else if ns < resetIgnored then .next s
    else
      let s1 := { s with freeCount := s.freeCount + 1 }
      if Config.freeChoice s.freeCount % 2 = 1 then .next (coldState .inReset s1) else .next s1

/-- RESET_RELEASE (R18, R208): with the supply below the threshold the station stays in reset. -/
def execResetRelease (s : State) : Result :=
  if s.loader.station = .inReset ∧ supplyThreshold ≤ s.pins.supply then .next (coldState .loading s)
  else .next s

/-- A strap sample judged against the one before (R19). -/
def Loader.strapSample (straps : BitVec 4) (l : Loader) : Loader :=
  if l.station = .loading ∧ l.number = none then
    if l.strapPrev = some straps then { l with number := some straps.toNat, strapPrev := some straps }
    else { l with strapPrev := some straps }
  else l

/-- STRAP_SAMPLE (R19). -/
def execStrapSample (straps : BitVec 4) (s : State) : Result :=
  .next { s with
    loader := s.loader.strapSample straps, pins := { s.pins with straps := straps } }

/-- Entry to CONFIG FAULT with the copy that passed its CRC, if one did (R1, R24). -/
def enterConfigFault (img : Option Image) (ok : Bool) (s : State) : State :=
  queueConfigStatus
    { s with loader := { s.loader with station := .configFault, image := img, imageOk := ok } }

/-- LOADING ends with the image judged (R20 to R23). -/
def loadingEnds (judged : Option Image × Bool) (me : Nat) (s : State) : State :=
  match judged.1 with
  | none => enterConfigFault none false s
  | some img =>
    if judged.2 then
      if numberOk img me then finish (enterJoining img s) else enterConfigFault (some img) true s
    else enterConfigFault (some img) false s

/-- START_IMAGE_READ_COMPLETE (R20 to R25). -/
def execStartImageReadComplete (first second : List Byte) (s : State) : Result :=
  if s.loader.station = .loading then
    match s.loader.number with
    | some me => .next (loadingEnds (judgeImage me (readImage first second)) me s)
    | none => .next s
  else .next s

/-- CONFIG_FAULT_STATUS_PERIOD (R15, R24). -/
def execConfigFaultStatusPeriod (s : State) : Result :=
  if s.loader.station = .configFault then .next (queueConfigStatus s) else .next s

end Sys2Proof.Machine
end

