-- ==== Sys2Proof/Machine/Wire.lean ====
section
/-! DEFINITION. The commands of the station's own frames on the wire (1.3): WIRE_FREE_TRANSMIT_START,
CONTENTION_LOST, ANSWER_SLOT_READ. -/
namespace Sys2Proof.Machine

/-- The first entry starts, when none is in transmission (R7). -/
def startFirst : List TxEntry → List TxEntry
  | [] => []
  | e :: es => if (e :: es).any (·.inTx) then e :: es else { e with inTx := true } :: es

/-- WIRE_FREE_TRANSMIT_START (R7). -/
def execWireFreeTransmitStart (s : State) : Result :=
  .next { s with link := { s.link with queue := startFirst s.link.queue } }

/-- The entry in transmission. -/
def inTransmission (q : List TxEntry) : Option TxEntry := q.find? (·.inTx)

/-- The waiting entry of the same kind that a returning STATUS or HEAT DEMAND gives way to (R10). -/
def laterOf (e : TxEntry) (q : List TxEntry) : Option TxEntry :=
  if e.body.replaces then q.find? fun x => !x.inTx && x.key == e.key else none

/-- The frame that stands in the place of one returning to waiting: a later STATUS or HEAT DEMAND
replaces it, and a STATUS keeps the start mark of the one it replaces (R8, R10, R15). -/
def returned (e : TxEntry) (q : List TxEntry) : TxEntry :=
  match laterOf e q with
  | some l => { l with body := e.body.replacing l.body }
  | none => { e with inTx := false }

/-- The queue when the frame in transmission returns to waiting; a frame left over from a warm restart
is dropped (R8, R10; log entry 18). -/
def returnToWaiting (e : TxEntry) (q : List TxEntry) : List TxEntry :=
  if e.orphan then q.filter fun x => !x.inTx
  else
    (q.filter fun x => x.inTx || !(laterOf e q).any fun _ => x.key == e.key).map fun x =>
      if x.inTx then returned e q else x

/-- CONTENTION_LOST (R8, R10). -/
def execContentionLost (s : State) : Result :=
  match inTransmission s.link.queue with
  | none => .next s
  | some e => .next { s with link := { s.link with queue := returnToWaiting e s.link.queue } }

/-- The isolation count after an own frame's slot is read (R13). -/
def isolationAfter (a : Answer) (n : Nat) : Nat := if a = .none then min 8 (n + 1) else 0

/-- The answer given to the block that queued the frame (R9, R45, R66); the others act on none. -/
def giveAnswer (e : TxEntry) (a : Answer) (s : State) : State :=
  if e.orphan then s
  else
    match e.body with
    | .boardOffer r _ => answerOffer r.tag a s
    | .snapshotReport _ => { s with pos := { s.pos with snapshot := none } }
    | .alarmRaise .. | .alarmAck .. | .alarmClear .. | .admitted _ | .boardExit .. | .recipeRequest ..
    | .heatDemand .. | .status _ | .profile _ => s

/-- ANSWER_SLOT_READ (R9, R13, R24). -/
def execAnswerSlotRead (slot : SlotBits) (s : State) : Result :=
  match inTransmission s.link.queue with
  | none => .next s
  | some e =>
    let a := slotAnswer slot
    let s1 := { s with link := { s.link with queue := s.link.queue.filter fun x => !x.inTx } }
    if s.active then
      .next (finish (giveAnswer e a (setIsolation (isolationAfter a s.link.isolation) s1)))
    else .next s1

end Sys2Proof.Machine
end

