-- ==== Sys2Proof/Machine/Frames.lean ====
section
/-! DEFINITION. The commands of frames heard on the line link: each is received by the shared
operation, which checks it and lets its owning block act and answer (1.2). -/
namespace Sys2Proof.Machine

/-- BAD_FRAME (R4): a frame that fails a check is counted; one whose checks pass is received. -/
def execBadFrame (f : RawFrame) (s : State) : Result :=
  if s.active then
    match frameCheck f with
    | none => .next (countBad s)
    | some k => .next (finish (receive k ⟨f.src, f.target, f.body⟩ s))
  else .next s

/-- NUMBER_CONFLICT (R13, R14). -/
def execNumberConflict (k : Kind) (f : Rx) (s : State) : Result := .next (finish (receive k f s))

/-- FRAME_NOT_TAKEN (R5, R6, R13). -/
def execFrameNotTaken (k : Kind) (f : Rx) (s : State) : Result := .next (finish (receive k f s))

/-- FRAME_AIMED_AT_OTHER_STATION (R5, R13). -/
def execFrameAimedAtOtherStation (k : Kind) (f : Rx) (s : State) : Result :=
  .next (finish (receive k f s))

/-- ALARM_RAISE (R198, R199). -/
def execAlarmRaise (f : Rx) (s : State) : Result := .next (finish (receive .alarmRaise f s))

/-- ALARM_ACK (R194, R195, R198, R200). -/
def execAlarmAck (f : Rx) (s : State) : Result := .next (finish (receive .alarmAck f s))

/-- ALARM_CLEAR (R198, R200). -/
def execAlarmClear (f : Rx) (s : State) : Result := .next (finish (receive .alarmClear f s))

/-- BOARD_OFFER (R69, R70). -/
def execBoardOffer (f : Rx) (s : State) : Result := .next (finish (receive .boardOffer f s))

/-- ADMITTED (R49). -/
def execAdmitted (f : Rx) (s : State) : Result := .next (finish (receive .admitted f s))

/-- BOARD_EXIT (R50). -/
def execBoardExit (f : Rx) (s : State) : Result := .next (finish (receive .boardExit f s))

/-- BOARD_NOTICE (R47). -/
def execBoardNotice (f : Rx) (s : State) : Result := .next (finish (receive .boardNotice f s))

/-- BOARD_WITHDRAW (R48). -/
def execBoardWithdraw (f : Rx) (s : State) : Result := .next (finish (receive .boardWithdraw f s))

/-- RECIPE_PAGE (R89, R90). -/
def execRecipePage (f : Rx) (s : State) : Result := .next (finish (receive .recipePage f s))

/-- RECIPE_WITHDRAW (R91). -/
def execRecipeWithdraw (f : Rx) (s : State) : Result := .next (finish (receive .recipeWithdraw f s))

/-- HEAT_DEMAND (R128). -/
def execHeatDemand (f : Rx) (s : State) : Result := .next (finish (receive .heatDemand f s))

/-- STATUS (R16, R57, R179, R182, R200). -/
def execStatus (f : Rx) (s : State) : Result := .next (finish (receive .status f s))

/-- SNAPSHOT (R44). -/
def execSnapshot (f : Rx) (s : State) : Result := .next (finish (receive .snapshot f s))

/-- RESTART (R28, R30). -/
def execRestart (f : Rx) (s : State) : Result := .next (finish (receive .restart f s))

end Sys2Proof.Machine
end

