-- ==== Sys2Proof/Machine/Periods.lean ====
section
/-! DEFINITION. The commands of the status period, of the peer status table's ages and of the power
round (1.5, 7.1): STATUS_PERIOD, PEER_STATUS_STALE, POWER_ROUND. -/
namespace Sys2Proof.Machine

/-- A BLOCKED exit-bound record with no offer outstanding is offered again (R67). -/
def reofferBlocked (s : State) : State :=
  match s.board.handoff.bound with
  | none => s
  | some t =>
    match findRecord t s.board.queue with
    | none => s
    | some r =>
      if r.state = .blocked ∧ s.board.handoff.outstanding = false then offerBoard t s else s

/-- An expiry of the status period (R15, R55, R57, R67, R182; log entry 24). -/
def statusPeriodOver (s : State) : State :=
  formFan (judgeAdmission (reofferBlocked (queueStatus false s)))

/-- STATUS_PERIOD (R15, R55, R57, R67, R182; log entries 3 and 24). -/
def execStatusPeriod (s : State) : Result :=
  if s.active then .next (finish (takeExpiry .statusPeriod statusPeriodOver s)) else .next s

/-- A heard entry whose age has reached the stale limit (R16). -/
def Peer.stale (p : Peer) : Peer := { p with age := max peerStaleAge p.age }

/-- PEER_STATUS_STALE (R16, R179). -/
def execPeerStatusStale (n : Nat) (s : State) : Result :=
  if s.active then
    let s1 := { s with link := { s.link with peers := s.link.peers.modify n (·.map Peer.stale) } }
    .next (finish (if n = s.cfg.cover then formAdopted s1 else s1))
  else .next s

/-- POWER_ROUND (R25, R27, R125). -/
def execPowerRound (s : State) : Result :=
  if s.active then .next (finish (countRound (ownRound s))) else .next s

end Sys2Proof.Machine
end

