-- ==== Sys2Proof/Machine/Position.lean ====
section
/-! DEFINITION. The commands of the encoder and of the board sensors (3.1, 3.3): ENCODER_PULSE,
SENSOR_INPUT_CHANGE. -/
namespace Sys2Proof.Machine

/-- A reverse pulse (R31, R32). -/
def reversePulse (s : State) : State :=
  let s1 := { s with pos := { s.pos with tally := min 65535 (s.pos.tally + 1) } }
  if s.pos.tally = 49 then appearance aReverseTravel s1 else s1

/-- A pending change taken when its position has been reached by the debounce distance (R35). -/
def SensorState.take (c : Pos) (debounce : Nat) (st : SensorState) : SensorState :=
  match st.pending with
  | some p => if reachedBy c p debounce then ⟨!st.active, none⟩ else st
  | none => st

/-- The edge that the taking makes (R35, R36). -/
def SensorState.edge (w : Sensor) (c : Pos) (debounce : Nat) (st : SensorState) : List Edge :=
  match st.pending with
  | some p => if reachedBy c p debounce then [⟨w, !st.active, p⟩] else []
  | none => []

/-- The spacing mark becomes absent once it has been reached by the minimum spacing (R57). -/
def dropSpacing (s : State) : State :=
  match s.board.spacing with
  | some p =>
    if reachedBy s.pos.counter p s.cfg.geometry.minSpacing then
      { s with board := { s.board with spacing := none } }
    else s
  | none => s

/-- A counter advance: the counter moves on, the sensors' changes are taken, and the run of due entries
and edges follows (R31, R35, R36, R41). -/
def advance (s : State) : State :=
  let c := s.pos.counter + 1
  let d := s.cfg.geometry.debounce
  runEvents (s.pos.entryS.edge .entry c d ++ s.pos.exitS.edge .exit c d)
    (dropSpacing { s with pos := { s.pos with
      counter := c, entryS := s.pos.entryS.take c d, exitS := s.pos.exitS.take c d } })

/-- A forward pulse (R31). -/
def forwardPulse (s : State) : State :=
  if 0 < s.pos.tally then { s with pos := { s.pos with tally := s.pos.tally - 1 } } else advance s

/-- ENCODER_PULSE (R31, R32). -/
def execEncoderPulse (forward : Bool) (s : State) : Result :=
  if s.active then .next (finish (if forward then forwardPulse s else reversePulse s)) else .next s

/-- A board sensor input that has changed level (R35). -/
def SensorState.seen (c : Pos) (active : Bool) (st : SensorState) : SensorState :=
  if active = st.active then { st with pending := none }
  else match st.pending with
    | some _ => st
    | none => { st with pending := some c }

/-- The level of a board sensor's input. -/
def setSensorPin (w : Sensor) (active : Bool) (s : State) : State :=
  match w with
  | .entry => { s with pins := { s.pins with entry := active } }
  | .exit => { s with pins := { s.pins with exitS := active } }

/-- The debounce state of a board sensor. -/
def sensorOf (w : Sensor) (s : State) : SensorState :=
  match w with
  | .entry => s.pos.entryS
  | .exit => s.pos.exitS

/-- The debounce state of a board sensor written. -/
def setSensor (w : Sensor) (st : SensorState) (s : State) : State :=
  match w with
  | .entry => { s with pos := { s.pos with entryS := st } }
  | .exit => { s with pos := { s.pos with exitS := st } }

/-- A change seen while the debounce distance is 0 is taken at once; otherwise it waits (R35). -/
def sensorChange (w : Sensor) (active : Bool) (s : State) : State :=
  let st := (sensorOf w s).seen s.pos.counter active
  if s.cfg.geometry.debounce = 0 then
    runEvents (st.edge w s.pos.counter 0) (setSensor w (st.take s.pos.counter 0) s)
  else setSensor w st s

/-- SENSOR_INPUT_CHANGE (R35, R36). -/
def execSensorInputChange (w : Sensor) (active : Bool) (s : State) : Result :=
  let s1 := setSensorPin w active s
  if s.active then .next (finish (sensorChange w active s1)) else .next s1

end Sys2Proof.Machine
end

