-- ==== Sys2Proof/Machine/Heating.lean ====
section
/-! DEFINITION. The commands of the Recipe Store's fetch timers and of the Heat Channels (5.3, 06):
FETCH_TIMER_EXPIRY, HEAT_SAMPLE, IDLE_TIMER_EXPIRY, BLIND_TIMER_EXPIRY, ZERO_CROSS, MAINS_MISSING. -/
namespace Sys2Proof.Machine

/-- Entry i's fetch timer runs out: a FETCHING entry becomes FAILED (R84). -/
def RecipeStore.fetchExpired (i : Nat) (st : RecipeStore) : RecipeStore :=
  match st.entry i with
  | none => st
  | some e =>
    if e.fetch = .fetching ∧ e.timer.isSome then
      st.setEntry i (some { e with fetch := .failed, timer := none })
    else st

/-- FETCH_TIMER_EXPIRY (R84, R85). -/
def execFetchTimerExpiry (i : Nat) (s : State) : Result :=
  if s.active then .next (finish { s with recipe := s.recipe.fetchExpired i }) else .next s

/-- The sample of every channel whose function is not NONE (R98). -/
def heatSampleAll (tc : List Reading) (s : State) : State :=
  samplesOf tc s.cfg.usedChannels { s with heat := { s.heat with sampleAge := some 0 } }

/-- HEAT_SAMPLE (R98 to R116). -/
def execHeatSample (tc : List Reading) (s : State) : Result :=
  let s1 := { s with pins := { s.pins with tc := tc } }
  if heatActs s then .next (finish (heatSampleAll tc s1)) else .next s1

/-- The idle timer of a channel runs out (R105). -/
def Channel.idleExpired (c : Channel) : Channel :=
  match c.idle with
  | .running _ => { c with idle := .done }
  | .off | .done => c

/-- IDLE_TIMER_EXPIRY (R105; log entry 20). -/
def execIdleTimerExpiry (k : Nat) (s : State) : Result :=
  if heatActs s then .next (modChannel k Channel.idleExpired s) else .next s

/-- The blind timer of channel k reaches its limit (R101). -/
def blindExpired (k : Nat) (s : State) : State :=
  match channel s k with
  | none => s
  | some c =>
    if c.mode = .blind then
      rederive k (appearance (aChannelFaulted k)
        (modChannel k (fun c => { c with fault := true }) s))
    else s

/-- BLIND_TIMER_EXPIRY (R101, R102). -/
def execBlindTimerExpiry (k : Nat) (s : State) : Result :=
  if heatActs s then .next (finish (blindExpired k s)) else .next s

/-- A rising zero-cross: mains is there, and every channel's output is decided (R121, R122). -/
def zeroCross (s : State) : State :=
  { s with heat := { s.heat with
      mainsMissing := false, mainsAge := 0, channels := s.heat.channels.map Channel.fireCycle } }

/-- ZERO_CROSS (R121, R122). -/
def execZeroCross (s : State) : Result :=
  if heatActs s then .next (finish (zeroCross s)) else .next s

/-- Mains goes missing (R122). -/
def mainsGone (s : State) : State :=
  { s with heat := { s.heat with
      mainsMissing := true, channels := s.heat.channels.map Channel.mainsLost } }

/-- MAINS_MISSING (R122). -/
def execMainsMissing (s : State) : Result :=
  if heatActs s then .next (finish (mainsGone s)) else .next s

end Sys2Proof.Machine
end

