-- ==== Sys2Proof/Machine/Fluxing.lean ====
section
/-! DEFINITION. The commands of the Flux Controller (08): NOZZLE_PULSE_END, DRAIN_TIMER_EXPIRY,
FLOW_METER_PULSE, TANK_SWITCH_CHANGE, TANK_SWITCH_TAKEN. -/
namespace Sys2Proof.Machine

/-- The Flux Controller takes part: JOINING or RUNNING, with FLUX. -/
def fluxActs (s : State) : Bool := s.active && s.cfg.functions.flux

/-- NOZZLE_PULSE_END (R144). -/
def execNozzlePulseEnd (s : State) : Result :=
  if fluxActs s then .next (cutPulse s) else .next s

/-- The held series is draining. -/
def draining (s : State) : Bool :=
  match s.flux.series with
  | some r => r.drain.isSome
  | none => false

/-- DRAIN_TIMER_EXPIRY (R148, R149). -/
def execDrainTimerExpiry (s : State) : Result :=
  if fluxActs s && draining s then .next (finish (meterSeries s)) else .next s

/-- A flow-meter pulse counted by the held series (R151). -/
def Series.meterPulse (r : Series) : Series := { r with flow := min 65535 (r.flow + 1) }

/-- FLOW_METER_PULSE (R151). -/
def execFlowMeterPulse (s : State) : Result :=
  if fluxActs s then
    .next { s with flux := { s.flux with series := s.flux.series.map Series.meterPulse } }
  else .next s

/-- A tank switch whose input has changed: a level other than the taken one starts its 1 s hold, and
the taken level cancels it (R153). -/
def Tank.seen (active : Bool) (t : Tank) : Tank :=
  if t.taken = some active then { t with hold := none }
  else match t.hold with
    | some _ => t
    | none => { t with hold := some 0 }

/-- The level of a tank switch's input. -/
def setTankPin (w : TankSwitch) (active : Bool) (s : State) : State :=
  match w with
  | .low => { s with pins := { s.pins with tankLow := active } }
  | .empty => { s with pins := { s.pins with tankEmpty := active } }

/-- A tank switch. -/
def tankOf (w : TankSwitch) (s : State) : Tank :=
  match w with
  | .low => s.flux.low
  | .empty => s.flux.empty

/-- A tank switch written. -/
def setTank (w : TankSwitch) (t : Tank) (s : State) : State :=
  match w with
  | .low => { s with flux := { s.flux with low := t } }
  | .empty => { s with flux := { s.flux with empty := t } }

/-- TANK_SWITCH_CHANGE (R153). -/
def execTankSwitchChange (w : TankSwitch) (active : Bool) (s : State) : Result :=
  let s1 := setTankPin w active s
  if fluxActs s then .next (setTank w ((tankOf w s1).seen active) s1) else .next s1

/-- A level that has held 1 s becomes the taken level (R153). -/
def Tank.takeLevel (t : Tank) : Tank := ⟨t.taken.map (!·), none⟩

/-- The taking of a tank switch; a TANK EMPTY taken ACTIVE cuts an open pulse (R144, R153). -/
def tankTaken (w : TankSwitch) (s : State) : State :=
  let s1 := setTank w (tankOf w s).takeLevel s
  if tankEmpty s1 && !tankEmpty s then cutPulse s1 else s1

/-- TANK_SWITCH_TAKEN (R144, R153). -/
def execTankSwitchTaken (w : TankSwitch) (s : State) : Result :=
  if fluxActs s && (tankOf w s).hold.isSome then .next (finish (tankTaken w s)) else .next s

end Sys2Proof.Machine
end

