-- ==== Sys2Proof/Machine/PotLevel.lean ====
section
/-! DEFINITION. The commands of the Pot Controller (09): LEVEL_SAMPLE, LEVEL_CHECK_DUE,
LEVEL_UNVERIFIED, FEED_PULSE_END, MELT_PAUSE_END, FEED_WINDOW_EXPIRY. -/
namespace Sys2Proof.Machine

/-- LEVEL_SAMPLE (R162 to R170). -/
def execLevelSample (level : Reading) (s : State) : Result :=
  let s1 := { s with pins := { s.pins with level := level } }
  if potActs s then
    .next (finish (judgeFeed
      (takeLevel level { s1 with pot := { s1.pot with sampleAge := some 0 } })))
  else .next s1

/-- The check age, in ms (R165). -/
def checkAge : Nat := 240000

/-- The level age reaches the check age: a check is due, unless one is already (R165). -/
def checkDue (s : State) : State :=
  { s with pot := { s.pot with
      age := max checkAge s.pot.age, check := some (s.pot.check.getD 0) } }

/-- LEVEL_CHECK_DUE (R165; log entry 3). -/
def execLevelCheckDue (s : State) : Result :=
  if potActs s then .next (takeExpiry .levelCheck checkDue s) else .next s

/-- The level age reaches the stale time (R164). -/
def levelStaleNow (s : State) : State :=
  { s with pot := { s.pot with age := max levelStaleTime s.pot.age } }

/-- LEVEL_UNVERIFIED (R164; log entry 3). -/
def execLevelUnverified (s : State) : Result :=
  if potActs s then .next (finish (takeExpiry .levelStale levelStaleNow s)) else .next s

/-- FEED_PULSE_END (R167). -/
def execFeedPulseEnd (s : State) : Result :=
  if potActs s then .next { s with pot := { s.pot with feed := s.pot.feed.cut } } else .next s

/-- A melt pause that has run out (R167). -/
def FeedPhase.pauseOver : FeedPhase → FeedPhase
  | .pause _ => .ready
  | p => p

/-- MELT_PAUSE_END (R167). -/
def execMeltPauseEnd (s : State) : Result :=
  if potActs s then .next { s with pot := { s.pot with feed := s.pot.feed.pauseOver } } else .next s

/-- FEED_WINDOW_EXPIRY (R169). -/
def execFeedWindowExpiry (s : State) : Result :=
  if potActs s then
    .next { s with pot := { s.pot with budget := s.cfg.pot.budget, runaway := false, window := 0 } }
  else .next s

end Sys2Proof.Machine
end

