-- ==== Sys2Proof/Machine/Fuming.lean ====
section
/-! DEFINITION. The commands of the Extraction Monitor and of the ACK button (10, 11.5): FLOW_SAMPLE,
RISE_DELAY_EXPIRY, EXTRACTION_LOST, GRACE_TIMER_EXPIRY, FAN_RUN_INPUT_CHANGE, FAN_NOT_RUNNING,
ACK_BUTTON_PRESS, ACK_BUTTON_INPUT_CHANGE. -/
namespace Sys2Proof.Machine

/-- FLOW_SAMPLE (R173, R176 to R178, R180). -/
def execFlowSample (flow pressure : Reading) (s : State) : Result :=
  let s1 := { s with pins := { s.pins with flow := flow, pressure := pressure } }
  if hoodActs s then .next (finish (takeFlow flow pressure s1)) else .next s1

/-- The rise delay timer runs out: the target takes the required flow (R175). -/
def Fume.riseOver (f : Fume) : Fume :=
  match f.rise with
  | some _ => { f with target := f.required, rise := none }
  | none => f

/-- The target takes the required flow where the rise delay timer runs (R175). -/
def riseExpired (s : State) : State := { s with fume := s.fume.riseOver }

/-- RISE_DELAY_EXPIRY (R175; log entry 3). -/
def execRiseDelayExpiry (s : State) : Result :=
  if hoodActs s then .next (takeExpiry .riseDelay riseExpired s) else .next s

/-- The time of the lost timer at which EXTRACTION LOST holds, in ms (R177). -/
def lostTime : Nat := 1000

/-- EXTRACTION_LOST (R177). -/
def execExtractionLost (s : State) : Result :=
  if lostRuns s then
    .next (finish { s with fume := { s.fume with lost := max lostTime s.fume.lost } })
  else .next s

/-- The grace timer runs out: the grace zero begins (R181). -/
def Fume.graceOver (f : Fume) : Fume :=
  match f.grace with
  | some _ => { f with grace := none, graceZero := true }
  | none => f

/-- GRACE_TIMER_EXPIRY (R107, R181). -/
def execGraceTimerExpiry (s : State) : Result :=
  if s.active then .next { s with fume := s.fume.graceOver } else .next s

/-- The fan station's feedback timer takes part: JOINING or RUNNING, with FAN. -/
def fanActs (s : State) : Bool := s.active && s.cfg.functions.fan

/-- FAN_RUN_INPUT_CHANGE (R184). -/
def execFanRunInputChange (active : Bool) (s : State) : Result :=
  let s1 := { s with pins := { s.pins with fanRun := active } }
  if fanActs s then
    .next (finish (if active then { s1 with fume := { s1.fume with feedback := 0 } } else s1))
  else .next s1

/-- The feedback time, in ms; a value above it marks the expiry as taken (R184). -/
def feedbackTime : Nat := 5000

/-- The feedback timer runs: a reference above 0 with the feedback inactive (R184). -/
def feedbackRuns (s : State) : Bool := fanActs s && decide (0 < s.fume.fanRef) && !s.pins.fanRun

/-- FAN_NOT_RUNNING (R184). -/
def execFanNotRunning (s : State) : Result :=
  if feedbackRuns s && decide (s.fume.feedback ≤ feedbackTime) then
    .next (finish (appearance aFanNotRunning
      { s with fume := { s.fume with feedback := feedbackTime + 1 } }))
  else .next s

/-- The first PENDING entry of the line alarm list (R201). -/
def firstPending (s : State) : Option LineEntry := s.alarm.list.find? fun e => !e.inService

/-- A press taken: ALARM ACK queued and applied (R195, R201). -/
def takePress (s : State) : State :=
  match firstPending s with
  | none => s
  | some e =>
    applyAck e.origin (some e.code)
      (enqueue .alarms allTarget (.alarmAck e.origin (some e.code)) s)

/-- ACK_BUTTON_PRESS (R195, R201); each press is taken once. -/
def execAckButtonPress (s : State) : Result :=
  if s.active && s.alarm.ack != .spent then
    .next (finish (takePress { s with alarm := { s.alarm with ack := .spent } }))
  else .next s

/-- How long the button must have been released, and held, in ms (R201). -/
def ackTime : Nat := 20

/-- The debounce at a change of the button's input (R201). -/
def AckPhase.change (pressed : Bool) (a : AckPhase) : AckPhase :=
  match pressed, a with
  | true, .released ms => if ackTime ≤ ms then .held 0 else .spent
  | true, a => a
  | false, .released ms => .released ms
  | false, _ => .released 0

/-- ACK_BUTTON_INPUT_CHANGE (R201). -/
def execAckButtonInputChange (pressed : Bool) (s : State) : Result :=
  let s1 := { s with pins := { s.pins with ack := pressed } }
  if s.active then
    .next { s1 with alarm := { s1.alarm with ack := s1.alarm.ack.change pressed } }
  else .next s1

end Sys2Proof.Machine
end

