-- ==== Sys2Proof/Machine/Tick.lean ====
section
/-! DEFINITION. One millisecond of the station's own time, which is what a step does when no command
waits: every running timer advances, and each that reaches its limit puts its command in the queue
(log entries 2, 4, 33, 34). -/
namespace Sys2Proof.Machine

/-! ### The commands of the timers that run out in the next millisecond -/

/-- A running timer reaches its limit in the next millisecond. -/
def runsOut (limit : Nat) : Option Nat → Bool
  | some n => decide (limit ≤ n + 1)
  | none => false

/-- A count that has not reached its limit reaches it in the next millisecond. -/
def reaches (limit n : Nat) : Bool := decide (n < limit) && decide (limit ≤ n + 1)

/-- The commands of a list whose test holds. -/
def dueOf (l : List (Bool × Instr)) : List Instr := (l.filter (·.1)).map (·.2)

/-- Strap samples and the status periods (R15, R19, R24). -/
def dueStart (s : State) : List Instr :=
  dueOf [(s.loader.station == .loading && s.loader.number.isNone, .strapSample s.pins.straps),
    (s.loader.station == .configFault && runsOut 1000 s.link.statusAge, .configFaultStatusPeriod),
    (s.active && runsOut 250 s.link.statusAge, .statusPeriod)]

/-- Peer entries that become stale (R16). -/
def duePeers (s : State) : List Instr :=
  dueOf ((List.range 16).map fun n =>
    ((match peer s n with | some p => reaches peerStaleAge p.age | none => false),
      Instr.peerStatusStale n))

/-- Fetch timers that run out (R83, R84). -/
def dueFetches (s : State) : List Instr :=
  dueOf ((List.range 32).map fun i =>
    ((match s.recipe.entry i with | some e => runsOut 2000 e.timer | none => false),
      Instr.fetchTimerExpiry i))

/-- The idle timer of a channel, while it runs. -/
def IdleTimer.ms : IdleTimer → Option Nat
  | .running n => some n
  | .off | .done => none

/-- The heat sample, the channels' timers, the mains monitor (R98, R101, R105, R122). -/
def dueHeat (s : State) : List Instr :=
  dueOf [(runsOut 100 s.heat.sampleAge, .heatSample s.pins.tc)]
    ++ dueOf ((List.range 6).map fun k =>
      ((match channel s k with
        | some c => runsOut (s.cfg.idleTime * 1000) c.idle.ms
        | none => false), Instr.idleTimerExpiry k))
    ++ dueOf ((List.range 6).map fun k =>
      ((match channel s k with | some c => runsOut 120000 c.blind | none => false),
        Instr.blindTimerExpiry k))
    ++ dueOf [(!s.heat.mainsMissing && reaches 100 s.heat.mainsAge, .mainsMissing)]

/-- The drain timer of a series. -/
def drainOf (s : State) : Option Nat := s.flux.series.bind (·.drain)

/-- The captured pulse time of the held series (R139). -/
def pulseOf (s : State) : Nat := (s.flux.series.map (·.pulse)).getD 0

/-- The power round, the nozzle, the drain, the tank switches (R125, R144, R148, R153). -/
def dueFlux (s : State) : List Instr :=
  dueOf [(runsOut s.cfg.roundPeriod s.allot.roundAge, .powerRound),
    (runsOut (pulseOf s) s.flux.nozzle, .nozzlePulseEnd),
    (runsOut 200 (drainOf s), .drainTimerExpiry),
    (runsOut 1000 s.flux.low.hold, .tankSwitchTaken .low),
    (runsOut 1000 s.flux.empty.hold, .tankSwitchTaken .empty)]

/-- The time of a feed pulse. -/
def FeedPhase.pulseMs : FeedPhase → Option Nat
  | .pulse n => some n
  | .ready | .pause _ => none

/-- The time of a melt pause. -/
def FeedPhase.pauseMs : FeedPhase → Option Nat
  | .pause n => some n
  | .ready | .pulse _ => none

/-- The feed window, in ms (R169). -/
def feedWindow : Nat := 3600000

/-- The pot's periods and timers (R162, R164, R165, R167, R169). -/
def duePot (s : State) : List Instr :=
  dueOf [(runsOut 100 s.pot.sampleAge, .levelSample s.pins.level),
    (potActs s && reaches checkAge s.pot.age, .levelCheckDue),
    (potActs s && reaches levelStaleTime s.pot.age, .levelUnverified),
    (runsOut (s.cfg.pot.feedPulse * 100) s.pot.feed.pulseMs, .feedPulseEnd),
    (runsOut (s.cfg.pot.meltPause * 1000) s.pot.feed.pauseMs, .meltPauseEnd),
    (potActs s && reaches feedWindow s.pot.window, .feedWindowExpiry)]

/-- The press time of the ACK button, while it is held. -/
def AckPhase.heldMs : AckPhase → Option Nat
  | .held n => some n
  | .released _ | .spent => none

/-- The extraction's periods and timers, and the ACK button (R173, R175, R177, R181, R184, R201). -/
def dueFume (s : State) : List Instr :=
  dueOf [(runsOut 100 s.fume.sampleAge, .flowSample s.pins.flow s.pins.pressure),
    (runsOut (s.cfg.fume.riseDelay * 1000) s.fume.rise, .riseDelayExpiry),
    (lostRuns s && reaches lostTime s.fume.lost, .extractionLost),
    (runsOut (s.cfg.fume.graceTime * 1000) s.fume.grace, .graceTimerExpiry),
    (feedbackRuns s && reaches feedbackTime s.fume.feedback, .fanNotRunning),
    (s.active && runsOut ackTime s.alarm.ack.heldMs, .ackButtonPress)]

/-- Every command that the next millisecond brings. -/
def dueCommands (s : State) : List Instr :=
  dueStart s ++ duePeers s ++ dueFetches s ++ dueHeat s ++ dueFlux s ++ duePot s ++ dueFume s

/-! ### Their order (log entry 4) -/

/-- The elements of a list in an order that free values choose; `n` bounds the work, and with one
element or none no free value is read. -/
def freeOrder : Nat → List Instr → State → List Instr × State
  | 0, _, s => ([], s)
  | n + 1, l, s =>
    let c := freeIndex l.length s
    match l[c.1]? with
    | none => ([], c.2)
    | some i =>
      let r := freeOrder n (l.eraseIdx c.1) c.2
      (i :: r.1, r.2)

/-- A melt pause that has run out is taken before the level sample of the same millisecond, so that
back-to-back pulses follow one another at the pulse time and the pause (R169, and the feeding run of 9.4). -/
def pauseFirst (l : List Instr) : List Instr :=
  if Instr.meltPauseEnd ∈ l then .meltPauseEnd :: l.filter (fun c => c != .meltPauseEnd) else l

/-! ### The timers advanced -/

/-- A running timer one millisecond on. -/
def later (t : Option Nat) : Option Nat := t.map (· + 1)

/-- A count one millisecond on, up to its limit. -/
def laterTo (limit n : Nat) : Nat := if n < limit then n + 1 else n

/-- The peer status table one millisecond on (R16). -/
def tickLink (l : Link) : Link :=
  { l with
    statusAge := later l.statusAge
    peers := l.peers.map fun p => p.map fun e => { e with age := laterTo peerStaleAge e.age } }

/-- The fetch timers one millisecond on (R83). -/
def tickRecipe (st : RecipeStore) : RecipeStore :=
  { st with dir := st.dir.map fun e => e.map fun d => { d with timer := later d.timer } }

/-- An idle timer one millisecond on. -/
def IdleTimer.tick : IdleTimer → IdleTimer
  | .running n => .running (n + 1)
  | t => t

/-- A channel's timers one millisecond on (R101, R105). -/
def Channel.tick (c : Channel) : Channel := { c with idle := c.idle.tick, blind := later c.blind }

/-- The Heat Channels one millisecond on (R98, R122). -/
def tickHeat (acts : Bool) (h : Heat) : Heat :=
  { h with
    channels := h.channels.map Channel.tick
    sampleAge := later h.sampleAge
    mainsAge := if acts then laterTo 100 h.mainsAge else h.mainsAge }

/-- A tank switch one millisecond on. -/
def Tank.tick (t : Tank) : Tank := { t with hold := later t.hold }

/-- The Flux Controller one millisecond on (R144, R148, R153). -/
def tickFlux (f : Flux) : Flux :=
  { f with
    series := f.series.map fun r => { r with drain := later r.drain }
    nozzle := later f.nozzle
    low := f.low.tick
    empty := f.empty.tick }

/-- A feeder phase one millisecond on. -/
def FeedPhase.tick : FeedPhase → FeedPhase
  | .ready => .ready
  | .pulse n => .pulse (n + 1)
  | .pause n => .pause (n + 1)

/-- The Pot Controller one millisecond on; the quiet timer stands at 0 while a pump is driven above
the idle grade (R162, R164, R167, R169). -/
def tickPot (s : State) : Pot :=
  if potActs s then
    { s.pot with
      quiet := if pumpsAboveIdle s then 0 else laterTo quietTime s.pot.quiet
      age := laterTo levelStaleTime s.pot.age
      feed := s.pot.feed.tick
      window := laterTo feedWindow s.pot.window
      sampleAge := later s.pot.sampleAge }
  else s.pot

/-- The Extraction Monitor one millisecond on (R175, R177, R181, R184). -/
def tickFume (s : State) : Fume :=
  { s.fume with
    rise := later s.fume.rise
    lost := if lostRuns s then laterTo lostTime s.fume.lost else s.fume.lost
    grace := later s.fume.grace
    feedback := if feedbackRuns s then laterTo feedbackTime s.fume.feedback else s.fume.feedback
    sampleAge := later s.fume.sampleAge }

/-- The ACK button's debounce one millisecond on (R201). -/
def AckPhase.tick : AckPhase → AckPhase
  | .released n => .released (laterTo ackTime n)
  | .held n => .held (n + 1)
  | .spent => .spent

/-- Every timer one millisecond on. -/
def tickTimers (s : State) : State :=
  { s with
    link := tickLink s.link
    recipe := tickRecipe s.recipe
    heat := tickHeat (heatActs s) s.heat
    allot := { s.allot with roundAge := later s.allot.roundAge }
    flux := tickFlux s.flux
    pot := tickPot s
    fume := tickFume s
    alarm := { s.alarm with ack := if s.active then s.alarm.ack.tick else s.alarm.ack } }

/-- The timers whose expiry may be overtaken, of the commands listed (log entry 3). -/
def ownTimers (l : List Instr) : List OwnTimer :=
  ((if Instr.statusPeriod ∈ l then [.statusPeriod] else [])
    ++ (if Instr.riseDelayExpiry ∈ l then [.riseDelay] else []))
    ++ ((if Instr.levelCheckDue ∈ l then [.levelCheck] else [])
    ++ (if Instr.levelUnverified ∈ l then [.levelStale] else []))

/-- One millisecond with no command waiting (log entry 2): what is due is queued in an order that free values
choose, with the end of a melt pause in front (log entry 4). -/
def tick (s : State) : State :=
  let due := dueCommands s
  let r := freeOrder due.length due (tickTimers s)
  { r.2 with pending := pauseFirst r.1, expiries := ⟨ownTimers due, []⟩ }

end Sys2Proof.Machine
end

