-- ==== Sys2Proof/Machine/Dispatch.lean ====
section
/-! DEFINITION. The meaning of each command: one arm per constructor, one call per arm. -/
namespace Sys2Proof.Machine

/-- What a command does to everything but the queue. -/
def exec (i : Instr) (s : State) : Host.Outcome State Fault Refusal :=
  match i with
  | .coldReset cause => Sys2Proof.Machine.execColdReset cause s
  | .resetRelease => Sys2Proof.Machine.execResetRelease s
  | .strapSample straps => Sys2Proof.Machine.execStrapSample straps s
  | .startImageReadComplete first second => Sys2Proof.Machine.execStartImageReadComplete first second s
  | .configFaultStatusPeriod => Sys2Proof.Machine.execConfigFaultStatusPeriod s
  | .wireFreeTransmitStart => Sys2Proof.Machine.execWireFreeTransmitStart s
  | .contentionLost => Sys2Proof.Machine.execContentionLost s
  | .answerSlotRead slot => Sys2Proof.Machine.execAnswerSlotRead slot s
  | .badFrame f => Sys2Proof.Machine.execBadFrame f s
  | .numberConflict k f => Sys2Proof.Machine.execNumberConflict k f s
  | .frameNotTaken k f => Sys2Proof.Machine.execFrameNotTaken k f s
  | .alarmRaise f => Sys2Proof.Machine.execAlarmRaise f s
  | .alarmAck f => Sys2Proof.Machine.execAlarmAck f s
  | .alarmClear f => Sys2Proof.Machine.execAlarmClear f s
  | .boardOffer f => Sys2Proof.Machine.execBoardOffer f s
  | .admitted f => Sys2Proof.Machine.execAdmitted f s
  | .boardExit f => Sys2Proof.Machine.execBoardExit f s
  | .boardNotice f => Sys2Proof.Machine.execBoardNotice f s
  | .boardWithdraw f => Sys2Proof.Machine.execBoardWithdraw f s
  | .recipePage f => Sys2Proof.Machine.execRecipePage f s
  | .recipeWithdraw f => Sys2Proof.Machine.execRecipeWithdraw f s
  | .heatDemand f => Sys2Proof.Machine.execHeatDemand f s
  | .status f => Sys2Proof.Machine.execStatus f s
  | .snapshot f => Sys2Proof.Machine.execSnapshot f s
  | .restart f => Sys2Proof.Machine.execRestart f s
  | .statusPeriod => Sys2Proof.Machine.execStatusPeriod s
  | .peerStatusStale n => Sys2Proof.Machine.execPeerStatusStale n s
  | .powerRound => Sys2Proof.Machine.execPowerRound s
  | .encoderPulse forward => Sys2Proof.Machine.execEncoderPulse forward s
  | .sensorInputChange w active => Sys2Proof.Machine.execSensorInputChange w active s
  | .fetchTimerExpiry e => Sys2Proof.Machine.execFetchTimerExpiry e s
  | .heatSample tc => Sys2Proof.Machine.execHeatSample tc s
  | .idleTimerExpiry ch => Sys2Proof.Machine.execIdleTimerExpiry ch s
  | .blindTimerExpiry ch => Sys2Proof.Machine.execBlindTimerExpiry ch s
  | .zeroCross => Sys2Proof.Machine.execZeroCross s
  | .mainsMissing => Sys2Proof.Machine.execMainsMissing s
  | .nozzlePulseEnd => Sys2Proof.Machine.execNozzlePulseEnd s
  | .drainTimerExpiry => Sys2Proof.Machine.execDrainTimerExpiry s
  | .flowMeterPulse => Sys2Proof.Machine.execFlowMeterPulse s
  | .tankSwitchChange w active => Sys2Proof.Machine.execTankSwitchChange w active s
  | .tankSwitchTaken w => Sys2Proof.Machine.execTankSwitchTaken w s
  | .levelSample level => Sys2Proof.Machine.execLevelSample level s
  | .levelCheckDue => Sys2Proof.Machine.execLevelCheckDue s
  | .levelUnverified => Sys2Proof.Machine.execLevelUnverified s
  | .feedPulseEnd => Sys2Proof.Machine.execFeedPulseEnd s
  | .meltPauseEnd => Sys2Proof.Machine.execMeltPauseEnd s
  | .feedWindowExpiry => Sys2Proof.Machine.execFeedWindowExpiry s
  | .flowSample flow pressure => Sys2Proof.Machine.execFlowSample flow pressure s
  | .riseDelayExpiry => Sys2Proof.Machine.execRiseDelayExpiry s
  | .extractionLost => Sys2Proof.Machine.execExtractionLost s
  | .graceTimerExpiry => Sys2Proof.Machine.execGraceTimerExpiry s
  | .fanRunInputChange active => Sys2Proof.Machine.execFanRunInputChange active s
  | .fanNotRunning => Sys2Proof.Machine.execFanNotRunning s
  | .ackButtonPress => Sys2Proof.Machine.execAckButtonPress s
  | .frameAimedAtOtherStation k f => Sys2Proof.Machine.execFrameAimedAtOtherStation k f s
  | .ackButtonInputChange pressed => Sys2Proof.Machine.execAckButtonInputChange pressed s

end Sys2Proof.Machine
end

