-- ==== Sys2Proof/Safety.lean ====
section
/-! DEFINITION. What a safe outcome of a step is, in the terms the statements use. -/
namespace Sys2Proof.Machine

/-- The outcome is a next state that meets P. -/
def NextWith (o : Host.Outcome State Fault Refusal) (P : State → Prop) : Prop :=
  ∃ t, o = .next t ∧ P t

/-- The outcome is a next state. -/
abbrev Completes (o : Host.Outcome State Fault Refusal) : Prop := NextWith o fun _ => True

/-- Every heater output of the state is off (R29). -/
def heatersOff (s : State) : Prop := ∀ k, heaterOn s k = false

/-- The outputs that R29 forces in LOADING, CONFIG FAULT and reset, but for the fan reference and the
beacon: heaters off, nozzles closed, feeder off, pumps 0, gate closed, permit withdrawn. -/
def quietOutputs (s : State) : Prop :=
  heatersOff s ∧ nozzlesOpen s = 0 ∧ feederOn s = false ∧ pumpReferences s = (0, 0)
    ∧ gateOpen s = false ∧ runPermit s = false

/-- The safe state of R29 in LOADING, CONFIG FAULT and reset: quiet outputs, fan reference 0, horn off
and the beacon red alone. -/
def safeOutputs (s : State) : Prop :=
  quietOutputs s ∧ s.fume.fanRef = 0 ∧ hornOn s = false ∧ redOn s = true ∧ amberOn s = false
    ∧ greenOn s = false

/-- Every block is at its cold-reset values (R17, R33, R43, R45, R75, R96, R123, R137, R154, R171, R186,
R203); those that the spec leaves open are the model's (log entry 7), and those that come from an image are
the blank image's (log entry 27). -/
def blocksCold (s : State) : Prop :=
  s.link = Link.cold ∧ s.pos = PosUnit.cold ∧ s.board = Tracker.cold ∧ s.recipe = RecipeStore.cold
    ∧ s.heat = Heat.cold Image.blank ∧ s.allot = Allot.cold ∧ s.flux = Flux.cold
    ∧ s.pot = Pot.cold Image.blank ∧ s.fume = Fume.cold Image.blank ∧ s.alarm = AlarmUnit.cold

/-- A function applied n times. -/
def repeated {α : Type} (f : α → α) : Nat → α → α
  | 0, x => x
  | n + 1, x => repeated f n (f x)

/-! ### Invariants -/

/-- The transmit queue holds at most 12 frames (R7). -/
def queueBound (s : State) : Prop := s.link.queue.length ≤ 12

/-- The event schedule holds at most 48 entries (R37). -/
def scheduleBound (s : State) : Prop := s.pos.schedule.length ≤ 48

/-- The line alarm list holds at most 32 entries (R199). -/
def listBound (s : State) : Prop := s.alarm.list.length ≤ 32

/-- Out of reset the supply stands at 2.9 V or above (R18, R208). -/
def supplyHeld (s : State) : Prop := s.loader.station ≠ .inReset → 2900 ≤ s.pins.supply

/-- Code c is in the pending set (R190). -/
def pendingCode (s : State) (c : Nat) : Prop := ∃ g, s.alarm.at c = .pending g

/-- Two pending codes have different levels (R190). -/
def pendingDistinct (s : State) : Prop :=
  ∀ c d, c < 64 → d < 64 → pendingCode s c → pendingCode s d → levelOf c = levelOf d → c = d

/-! ### Frames as the statements speak of them -/

/-- A valid frame of another node with target ALL, heard in JOINING or RUNNING. -/
def heardByAll (k : Kind) (f : Rx) (s : State) : Prop :=
  s.active = true ∧ k.lengthOk f.body.length = true ∧ f.src.toNat ≠ s.me ∧ f.target = allTarget

/-- A valid frame of the panel with target ALL, heard in JOINING or RUNNING. -/
def panelToAll (k : Kind) (f : Rx) (s : State) : Prop :=
  heardByAll k f s ∧ f.src.toNat = s.cfg.panel

/-- A valid frame of another node aimed at this station, heard in JOINING or RUNNING. -/
def aimedHere (k : Kind) (f : Rx) (s : State) : Prop :=
  s.active = true ∧ k.lengthOk f.body.length = true ∧ f.src.toNat ≠ s.me ∧ f.target = toStation s.me

end Sys2Proof.Machine
end

