-- ==== Sys2Proof/Certificates/Slice0/Obligations.lean ====
section
/-! DEFINITION. The statements for the provers, one def each, in the order of OBLIGATIONS.json. -/
open Sys2Proof Sys2Proof.Machine

/-! ### The queue, reset and start-up -/

/-- A step runs the command at the front of the queue on the state with the queue's rest; with no command
waiting it is one millisecond of the station's own time (the model's choice, log entry 2). -/
def Obligations.StepRunsTheFront : Prop :=
  (∀ c cs (s : State), s.pending = c :: cs → step s = exec c { s with pending := cs }) ∧
  (∀ s : State, s.pending = [] → step s = .next (tick s))

/-- Every command is taken whole in every state and leaves the waiting commands alone. -/
def Obligations.EveryCommandKeepsTheQueue : Prop :=
  ∀ c (s : State), ∃ t, exec c s = .next t ∧ t.pending = s.pending

/-- The values that cold reset gives, at `State.reset`, with its outputs in the safe state. -/
def Obligations.ResetValues : Prop :=
  let s := State.reset
  s.loader.station = .loading ∧ s.link.queue = [] ∧ s.link.badCount = 0 ∧ s.link.discard = 0 ∧
  s.link.isolation = 0 ∧ s.link.peers = List.replicate 16 none ∧ s.link.statusAge = none ∧
  s.pos.counter = 0 ∧ s.pos.tally = 0 ∧ s.pos.schedule = [] ∧ s.pos.snapshot = none ∧
  s.board.expected = [] ∧ s.board.queue = [] ∧ s.board.gate = none ∧ s.board.spacing = none ∧
  s.board.handoff.bound = none ∧ s.board.admitFlag = false ∧ s.board.blockers = Blockers.empty ∧
  nextLocal s.board.lastLocal s.board.queue = 65280 ∧
  s.recipe.dir = List.replicate 32 none ∧ s.recipe.slots = List.replicate 64 none ∧
  s.recipe.hand = 0 ∧ s.heat.notes = [] ∧ s.heat.mainsMissing = true ∧
  s.allot.view = List.replicate 16 none ∧ s.allot.g0 = 0 ∧ s.allot.g1 = 0 ∧
  s.allot.caps = List.replicate 6 0 ∧ s.allot.short = 0 ∧ s.allot.roundAge = none ∧
  s.flux.series = none ∧ s.flux.handled = [] ∧ s.flux.noFlow = 0 ∧ s.flux.low.taken = none ∧
  s.flux.empty.taken = none ∧ s.pot.raised = [] ∧ s.pot.ring = [] ∧ s.pot.avg = none ∧
  s.pot.level = none ∧ s.pot.check = none ∧ s.pot.feed = .ready ∧ s.pot.feedRun = false ∧
  s.pot.runaway = false ∧ s.fume.measured = 0 ∧ s.fume.filter = 0 ∧ s.fume.adopted = false ∧
  s.fume.graceZero = false ∧ s.alarm.list = [] ∧ s.alarm.incomplete = false ∧
  (∀ c, s.alarm.at c = .idle) ∧ safeOutputs s

/-- COLD_RESET and RESET_RELEASE: a supply applied, a supply seen under 2.9 V or a pulse of 10 us or more
takes any state into reset with every block cold and the outputs safe; a supply that stays at 2.9 V or
above, and a pulse under 1 us, reset nothing; a pulse between does either (a free value decides: log entry
6); released from reset with the supply at 2.9 V or above, the station enters LOADING with every block cold,
and with less it stays in reset. The cold values that the spec leaves open are those of log entry 7, and
those that come from an image are those of the blank image (log entry 27). -/
def Obligations.ResetCommandsGiveColdBlocks : Prop :=
  (∀ cause mv (s : State),
    (cause = .supplyApplied mv ∨ (cause = .supplyLow mv ∧ mv < 2900)) →
    ∃ t, exec (.coldReset cause) s = .next t ∧ t.loader = Loader.cold .inReset ∧ blocksCold t ∧
      t.pins = { s.pins with supply := mv } ∧ safeOutputs t) ∧
  (∀ mv (s : State), 2900 ≤ mv → exec (.coldReset (.supplyLow mv)) s =
    .next { s with pins := { s.pins with supply := mv } }) ∧
  (∀ ns (s : State), 10000 ≤ ns →
    ∃ t, exec (.coldReset (.resetPin ns)) s = .next t ∧ t.loader = Loader.cold .inReset ∧
      blocksCold t ∧ t.pins = s.pins ∧ safeOutputs t) ∧
  (∀ ns (s : State), ns < 1000 → exec (.coldReset (.resetPin ns)) s = .next s) ∧
  (∀ ns (s : State), 1000 ≤ ns → ns < 10000 →
    ∃ t, exec (.coldReset (.resetPin ns)) s = .next t ∧
      (t = { s with freeCount := s.freeCount + 1 } ∨
        (t.loader = Loader.cold .inReset ∧ blocksCold t ∧ t.pins = s.pins ∧ safeOutputs t))) ∧
  (∀ s : State, s.loader.station = .inReset → 2900 ≤ s.pins.supply →
    ∃ t, exec .resetRelease s = .next t ∧ t.loader = Loader.cold .loading ∧ blocksCold t ∧
      t.pins = s.pins ∧ safeOutputs t) ∧
  (∀ s : State, s.loader.station ≠ .inReset ∨ s.pins.supply < 2900 →
    exec .resetRelease s = .next s)

/-- STRAP_SAMPLE: in LOADING without a number, two equal consecutive samples give the station number and unequal
ones do not; in every other case the sample changes the pins alone. START_IMAGE_READ_COMPLETE: an image that
passes every check leads into JOINING with round count 0 and the sensors' levels taken (a channel before its
first sample: log entry 7), its STATUS queued with start mark 1; any failed check leads into CONFIG FAULT, whose
STATUS period starts. A copy is read whole behind a good header (tag 18,742, length 466 to 1,536), and kept with
a good CRC: the first, or the second where the CRC of the first alone fails. It passes exactly where its bytes
lie in the limits of R207 and agree as R22 asks. -/
def Obligations.LoadingEnds : Prop :=
  ((∀ p (s : State), s.loader.station = .loading → s.loader.number = none →
     ∃ t, exec (.strapSample p) s = .next t ∧ t.loader.strapPrev = some p ∧
       t.loader.station = .loading ∧
       t.loader.number = (if s.loader.strapPrev = some p then some p.toNat else none) ∧
       t = { s with loader := t.loader, pins := { s.pins with straps := p } }) ∧
   (∀ p (s : State), (s.loader.station ≠ .loading ∨ s.loader.number ≠ none) →
     exec (.strapSample p) s = .next { s with pins := { s.pins with straps := p } })) ∧
  (∀ first second me (s : State), s.loader.station = .loading → s.loader.number = some me →
     let j := judgeImage me (readImage first second)
     (∀ img, j = (some img, true) →
       ∃ t, exec (.startImageReadComplete first second) s = .next t ∧
         t.loader.station = .joining ∧ t.loader.image = some img ∧ t.loader.number = some me ∧
         t.loader.roundCount = 0 ∧ t.allot.roundAge = some 0 ∧
         t.pos.entryS = ⟨s.pins.entry, none⟩ ∧ t.pos.exitS = ⟨s.pins.exitS, none⟩ ∧
         t.heat.channels = img.channels.map Channel.cold ∧
         t.pot.check = (if img.functions.pot then some 0 else none) ∧
         t = finish (enterJoining img s) ∧
         (s.link.queue.length < 12 → ∃ e f, e ∈ (enterJoining img s).link.queue ∧ e.inTx = false ∧
           e.target = allTarget ∧ e.body = .status f ∧ f.station = .joining ∧ f.startMark = true)) ∧
     (j.2 = false →
       ∃ t, exec (.startImageReadComplete first second) s = .next t ∧
         t.loader.station = .configFault ∧ t.loader.imageOk = false ∧ t.link.statusAge = some 0)) ∧
  (∀ first second b,
     let headed := fun (mem c : List Byte) =>
       let read := fun i => (mem.getD i 0xFF#8).toNat
       let n := 256 * read 2 + read 3
       256 * read 0 + read 1 = 18742 ∧ 466 ≤ n ∧ n ≤ 1536 ∧
         c = (List.range n).map fun i => mem.getD i 0xFF#8
     let sound := fun (c : List Byte) => crcOf (bytesBits (c.take (c.length - 2))) =
       BitVec.ofNat 16 (field c (c.length - 2) 2)
     readImage first second = some b ↔ sound b ∧
       (headed first b ∨ (∃ c, headed first c ∧ ¬sound c) ∧ headed second b)) ∧
  (∀ me, judgeImage me none = (none, false)) ∧
  (∀ me b,
     let n := field b
     let within := fun lo o k hi => lo ≤ n o k ∧ n o k ≤ hi
     let members := (List.range 16).filter fun m => (n 11 2).testBit m
     let has := fun i => (n 6 1).testBit i = true
     let limits : Prop :=
       within 0 6 1 63 ∧ within 1 7 1 3 ∧ within 0 8 1 15 ∧
       (∀ o ∈ [9, 10], n o 1 ≤ 15 ∨ n o 1 = 255) ∧ 2 ≤ members.length ∧ members.length ≤ 12 ∧
       within 0 13 1 15 ∧
       (∀ m ∈ members, within 0 (14 + 6 * m) 2 480 ∧ within 0 (16 + 6 * m) 2 480 ∧
         within 0 (18 + 6 * m) 2 2000) ∧
       within 1 110 3 200000 ∧ (∀ o ∈ [113, 122, 156, 159], within 0 o 3 200000) ∧
       (∀ o ∈ [116, 118, 120, 125, 162, 164], within 0 o 2 50000) ∧ n 162 2 ≤ n 159 3 ∧
       (∀ z, z < 4 → let o := 128 + 7 * z
         n (o + 6) 1 = 0 ∨ (within 1 (o + 6) 1 16 ∧ n o 3 < n (o + 3) 3 ∧ n (o + 3) 3 ≤ 200000)) ∧
       (∀ k, k < 6 → let o := 166 + 11 * k
         n o 1 = 0 ∨ (within 1 o 1 3 ∧ within 0 (o + 1) 1 3 ∧ n (134 + 7 * n (o + 1) 1) 1 ≠ 0 ∧
           within 0 (o + 2) 1 7 ∧ (n (o + 3) 1 = 255 ∨ n (o + 3) 1 ≤ 7 ∧ n (o + 3) 1 ≠ n (o + 2) 1) ∧
           within 1 (o + 4) 1 80 ∧ within 0 (o + 7) 2 6500 ∧ within 0 (o + 9) 2 4000)) ∧
       (∀ x ∈ [(232, 4000), (238, 2000)], n x.1 2 ≤ n (x.1 + 2) 2 ∧ n (x.1 + 2) 2 ≤ x.2 ∧
         within 1 (x.1 + 4) 1 255 ∧ within 1 (x.1 + 5) 1 255) ∧
       within 0 244 2 4000 ∧ within 1 246 2 7200 ∧
       (∀ o ∈ [249, 251, 253, 255, 257], within 0 o 2 1000) ∧ n 253 2 < n 251 2 ∧ n 251 2 < n 249 2 ∧
       n 255 2 < n 257 2 ∧ n 257 2 ≤ n 249 2 ∧ within 1 259 1 100 ∧ within 1 260 1 60 ∧
       within 1 261 2 1000 ∧ (∀ o ∈ [263, 265, 267], within 0 o 2 2000) ∧ within 0 269 1 60 ∧
       within 5 270 2 600 ∧ (∀ o ∈ [272, 274], within 0 o 2 5000) ∧ n 272 2 < n 274 2 ∧
       (∀ i, i < 8 → within 0 (276 + 4 * i) 2 32000 ∧ within 0 (278 + 4 * i) 2 1000 ∧
         (0 < i → n (272 + 4 * i) 2 < n (276 + 4 * i) 2)) ∧
       within 0 316 1 7 ∧
       (∀ i, i < 16 → let o := 317 + 4 * i
         within 0 o 1 2 ∧ within 0 (o + 1) 1 2 ∧ within 0 (o + 2) 1 1 ∧ within 0 (o + 3) 1 1) ∧
       (∀ i, i < 33 → within 0 (381 + 2 * i) 2 4000) ∧
       within 0 448 2 1000 ∧ within 0 450 2 1000 ∧ within 20 452 2 2000 ∧ within 5 454 1 200 ∧
       within 1 455 1 255 ∧ within 0 456 1 50 ∧ within 0 459 1 1 ∧
       within 10 460 2 2000 ∧ within 500 462 2 2000
     let agreement : Prop :=
       me ∈ members ∧ n 8 1 ∉ members ∧ (has 0 → n 10 1 = 255 → members.length ≤ 1) ∧
       (¬has 0 → n 9 1 ≠ 255) ∧ (∀ o ∈ [9, 10], n o 1 ≠ 255 → n o 1 ≠ me ∧ n o 1 ∈ members) ∧
       (¬has 4 → n 13 1 ≠ me ∧ n 13 1 ∈ members) ∧
       (∀ k, k < 6 → (n (166 + 11 * k) 1 = 3 → has 3) ∧
         (n (166 + 11 * k) 1 = 1 ∨ n (166 + 11 * k) 1 = 2 → has 2))
     (judgeImage me (some b)).1 = some (imageOf b) ∧
     ((judgeImage me (some b)).2 = true ↔ limits ∧ agreement))

/-- What a STATUS carries. CONFIG_FAULT_STATUS_PERIOD: with room in the queue a STATUS with the CONFIG FAULT
fields waits in it afterwards, every field not named 0, and the period restarts. A STATUS of JOINING and
RUNNING carries the station's values at the queueing, the blockers and the admit flag computed then, and its
start mark is set where it replaces one that had it set (log entry 23); each blocker holds exactly where its
rule says. -/
def Obligations.StatusFramesQueued : Prop :=
  (∀ s : State, s.loader.station = .configFault → s.link.queue.length < 12 →
    ∃ t e f, exec .configFaultStatusPeriod s = .next t ∧ t.link.statusAge = some 0 ∧
      e ∈ t.link.queue ∧ e.inTx = false ∧ e.target = allTarget ∧ e.body = .status f ∧
      f.station = .configFault ∧ f.hold = true ∧ f.admitFlag = false ∧ f.readyFor = none ∧
      f.blockers = Blockers.empty ∧ f.highest = none ∧ f.pendingCount = 0 ∧
      f.functions = (if s.loader.imageOk then s.cfg.functions
        else ⟨false, false, false, false, false, false⟩) ∧
      f.queueCount = 0 ∧ f.expectedCount = 0 ∧ f.requiredFlow = 0 ∧ f.hoodMax = 0 ∧
      f.measuredFlow = 0 ∧ f.proven = false ∧ f.listIncomplete = false ∧ f.discard = 0 ∧
      f.badCount = 0 ∧
      ((∀ x ∈ s.link.queue, ∀ g, x.body = .status g → g.startMark = false) → f.startMark = false)) ∧
  (∀ m (s : State), s.link.queue.length < 12 →
    let t := queueStatus m s
    t.link.statusAge = some 0 ∧ ∃ e f, e ∈ t.link.queue ∧ e.inTx = false ∧ e.target = allTarget ∧
      e.body = .status f ∧ f.station = s.loader.station ∧ f.functions = s.cfg.functions ∧
      f.blockers = blockersNow s ∧
      (f.admitFlag = true ↔ s.loader.station = .running ∧ blockersNow s = Blockers.empty) ∧
      f.readyFor = s.board.head.bind (·.product) ∧ (f.hold = true ↔ runPermit s = false) ∧
      f.queueCount = s.board.queue.length ∧ f.expectedCount = s.board.expected.length ∧
      f.highest = s.alarm.highestPending ∧ f.pendingCount = s.alarm.pendingCodes.length ∧
      f.requiredFlow = (if s.cfg.functions.hood then s.fume.required else 0) ∧
      f.hoodMax = (if s.cfg.functions.hood then s.cfg.fume.hoodMax else 0) ∧
      f.measuredFlow = (if s.cfg.functions.hood then s.fume.measured else 0) ∧
      f.proven = proven s ∧ f.listIncomplete = s.alarm.incomplete ∧ f.discard = s.link.discard ∧
      f.badCount = s.link.badCount ∧ (m = true → f.startMark = true) ∧
      (∀ pre x post g, s.link.queue = pre ++ x :: post → x.inTx = false → x.body = .status g →
        (∀ y ∈ pre, y.inTx = true ∨ y.key ≠ x.key) → g.startMark = true → f.startMark = true) ∧
      (m = false → (∀ x ∈ s.link.queue, ∀ g, x.body = .status g → g.startMark = false) →
        f.startMark = false)) ∧
  (∀ s : State,
    ((blockersNow s).joining = true ↔ s.loader.station = .joining) ∧
    ((blockersNow s).heat = true ↔ ∃ k c, k < 6 ∧ (s.cfg.channel k).fn ≠ .unused ∧
      channel s k = some c ∧ (c.mode = .faulted ∨ c.mode = .tripped ∨ c.mode = .blind ∨
        ∃ h, s.board.head = some h ∧ c.governing = some h.tag ∧ c.det.phase ≠ .settled)) ∧
    ((blockersNow s).recipe = true ↔
      ∃ h, s.board.head = some h ∧ s.recipe.status h.ref ≠ .resolved) ∧
    ((blockersNow s).level = true ↔
      s.cfg.functions.pot = true ∧ (s.pot.level = some .lowLow ∨ s.pot.check ≠ none)) ∧
    ((blockersNow s).extraction = true ↔ proven s = false) ∧
    ((blockersNow s).flux = true ↔ s.cfg.functions.flux = true ∧
      (s.alarm.standing 39 = true ∨ s.alarm.standing 41 = true)) ∧
    ((blockersNow s).alarm = true ↔ ∃ c, c < 64 ∧ levelOf c = 7 ∧ s.alarm.standing c = true))

/-! ### Own frames in the queue and on the wire -/

/-- A frame queued. A STATUS or HEAT DEMAND takes the place of the waiting one of its kind; any other frame
stands after those of its key or a stronger one while fewer than 12 are held; a full queue gives up its
weakest waiting frame, the last of its key, for a stronger one and drops the new frame otherwise. Key order
is kept. A frame dropped counts one discard, modulo 256; a dropped SNAPSHOT REPORT releases the latch, and
the tag of a dropped BOARD OFFER is noted for its NONE (log entry 10). -/
def Obligations.FramesTakeTheirPlace : Prop :=
  (∀ q e, q.Pairwise (fun x y => x.key ≤ y.key) →
    (placeFrame q e).1.Pairwise (fun x y => x.key ≤ y.key)) ∧
  (∀ pre x post e, e.body.replaces = true → x.inTx = false → x.key = e.key →
    (∀ y ∈ pre, y.inTx = true ∨ y.key ≠ e.key) →
    placeFrame (pre ++ x :: post) e =
      (pre ++ { e with body := x.body.replacing e.body } :: post, none)) ∧
  (∀ q e, q.Pairwise (fun x y => x.key ≤ y.key) →
    (e.body.replaces = false ∨ ∀ x ∈ q, x.inTx = true ∨ x.key ≠ e.key) → q.length < 12 →
    placeFrame q e = (q.filter (fun x => decide (x.key ≤ e.key)) ++
      e :: q.filter (fun x => decide (e.key < x.key)), none)) ∧
  (∀ pre w post e, 12 ≤ (pre ++ w :: post).length → w.inTx = false →
    (e.body.replaces = false ∨ ∀ x ∈ pre ++ w :: post, x.inTx = true ∨ x.key ≠ e.key) →
    (∀ y ∈ pre, y.inTx = true ∨ y.key ≤ w.key) → (∀ y ∈ post, y.inTx = true ∨ y.key < w.key) →
    placeFrame (pre ++ w :: post) e =
      if e.key < w.key then (insertByKey e (pre ++ post), some w) else (pre ++ w :: post, some e)) ∧
  (∀ b target body (s : State),
    let r := placeFrame s.link.queue ⟨body, target, b, false, false⟩
    let t := enqueue b target body s
    t.link.queue = r.1 ∧
    t.link.discard = (if r.2 = none then s.link.discard else (s.link.discard + 1) % 256) ∧
    (r.2 = none → t.pos = s.pos ∧ t.link.offersDropped = s.link.offersDropped) ∧
    (∀ d v, r.2 = some d → d.body = .snapshotReport v → t.pos.snapshot = none) ∧
    (∀ d x st, r.2 = some d → d.body = .boardOffer x st →
      t.link.offersDropped = s.link.offersDropped ++ [x.tag] ∧ t.pos = s.pos) ∧
    t.link.isolation = s.link.isolation ∧ t.board = s.board)

/-- WIRE_FREE_TRANSMIT_START and CONTENTION_LOST: with none in transmission the first entry starts; a frame
that loses contention goes back to waiting in its place; a STATUS or HEAT DEMAND with a later one of its
kind waiting gives its place to the later one; nothing else changes. -/
def Obligations.FramesStartAndReturnToWaiting : Prop :=
  (∀ (s : State) e es, s.link.queue = e :: es → (∀ x ∈ e :: es, x.inTx = false) →
    exec .wireFreeTransmitStart s =
      .next { s with link := { s.link with queue := { e with inTx := true } :: es } }) ∧
  (∀ (s : State) pre e post, s.link.queue = pre ++ e :: post → e.inTx = true → e.orphan = false →
    (∀ x ∈ pre ++ post, x.inTx = false) →
    (e.body.replaces = false ∨ ∀ x ∈ pre ++ post, x.key ≠ e.key) →
    exec .contentionLost s =
      .next { s with link := { s.link with queue := pre ++ { e with inTx := false } :: post } }) ∧
  (∀ (s : State) pre e l post, s.link.queue = pre ++ e :: l :: post → e.inTx = true →
    e.orphan = false → e.body.replaces = true → l.inTx = false → l.key = e.key →
    (∀ x ∈ pre ++ post, x.inTx = false ∧ x.key ≠ e.key) →
    exec .contentionLost s =
      .next { s with link := { s.link with
        queue := pre ++ { l with body := e.body.replacing l.body } :: post } })

/-- The answer slot: a receiver drives one bit for ACCEPT, two for DEFER, three for REFUSE and none without an
answer, a station those of the answer it gave, and the sender reads the strongest of the answers given.
ANSWER_SLOT_READ: the slot is read in the order REFUSE, DEFER, ACCEPT, NONE; NONE adds 1 to the isolation count
up to 8 and any other answer sets it to 0; the frame in transmission has left the queue; counts, peers, counter
and caps stay. The answer to a BOARD OFFER reaches the tracker, that to a SNAPSHOT REPORT releases the latch,
and any other, or one to a frame left over from a warm restart, acts on no block (log entry 18). -/
def Obligations.AnswerActsOnIsolation : Prop :=
  (∀ b : SlotBits, slotAnswer b =
    if b.third then .refuse else if b.second then .defer else if b.first then .accept else .none) ∧
  (∀ (a : Answer) (s : State),
    slotDriven (driveAnswer a s) = ⟨a ≠ .none, a = .defer ∨ a = .refuse, a = .refuse⟩) ∧
  (∀ l : List Answer, slotAnswer (slotOf l) =
    if .refuse ∈ l then .refuse else if .defer ∈ l then .defer else if .accept ∈ l then .accept else .none) ∧
  (∀ b (s : State) e, s.active = true → s.link.queue.find? (·.inTx) = some e →
    ∃ t, exec (.answerSlotRead b) s = .next t ∧
      t.link.isolation = (if slotAnswer b = .none then min 8 (s.link.isolation + 1) else 0) ∧
      (∀ x ∈ t.link.queue, x.inTx = false) ∧ t.link.badCount = s.link.badCount ∧
      t.link.peers = s.link.peers ∧ t.pos.counter = s.pos.counter ∧ t.allot = s.allot) ∧
  (∀ b (s : State) e, s.active = true → s.link.queue.find? (·.inTx) = some e →
    let a := slotAnswer b
    let u := setIsolation (if a = .none then min 8 (s.link.isolation + 1) else 0)
      { s with link := { s.link with queue := s.link.queue.filter fun x => !x.inTx } }
    (∀ r st, e.body = .boardOffer r st → e.orphan = false →
      exec (.answerSlotRead b) s = .next (finish (answerOffer r.tag a u))) ∧
    (∀ v, e.body = .snapshotReport v → e.orphan = false →
      exec (.answerSlotRead b) s = .next (finish { u with pos := { u.pos with snapshot := none } }) ∧
      ∃ t, exec (.answerSlotRead b) s = .next t ∧ t.pos.snapshot = none) ∧
    ((e.orphan = true ∨ ((∀ r st, e.body ≠ .boardOffer r st) ∧ ∀ v, e.body ≠ .snapshotReport v)) →
      exec (.answerSlotRead b) s = .next (finish u)))

/-- The answer to an offer, by the answer and by whether the exit trailing edge has been seen. Not seen: ACCEPT
makes the record OFFERED, DEFER and NONE make it BLOCKED. Seen: ACCEPT removes it without a frame, DEFER and
NONE remove it with BOARD EXIT, LOST and LEFT UNACCEPTED. REFUSE removes it in either case with BOARD EXIT,
LOST and REFUSED, and HANDOFF REFUSED appears. An answer for a board that is not exit-bound is dropped, also
while another board is: the match by tag is the model's reading (log entry 11). -/
def Obligations.OfferAnswerActsOnTheRecord : Prop :=
  (∀ (s : State) t r, s.board.handoff.bound = some t → findRecord t s.board.queue = some r →
    let gone := fun a => removeRecord t { s with board := { s.board with
      handoff := { s.board.handoff with outstanding := false, last := some a } } }
    (s.board.handoff.trailSeen = false →
      findRecord t (answerOffer t .accept s).board.queue = some { r with state := .offered } ∧
      findRecord t (answerOffer t .defer s).board.queue = some { r with state := .blocked } ∧
      findRecord t (answerOffer t .none s).board.queue = some { r with state := .blocked } ∧
      ∀ a, a ≠ .refuse → (answerOffer t a s).board.handoff =
        { s.board.handoff with outstanding := false, last := some a }) ∧
    (s.board.handoff.trailSeen = true →
      (∀ a, findRecord t (answerOffer t a s).board.queue = none) ∧
      answerOffer t .accept s = gone .accept ∧ (answerOffer t .accept s).link = s.link ∧
      ∀ a, a = .defer ∨ a = .none → answerOffer t a s =
        enqueue .tracker allTarget (.boardExit r .leftUnaccepted) (gone a)) ∧
    answerOffer t .refuse s = appearance 33
      (enqueue .tracker allTarget (.boardExit r .refused) (gone .refuse)) ∧
    (s.alarm.place.length = 64 → (answerOffer t .refuse s).alarm.standing 33 = true) ∧
    findRecord t (answerOffer t .refuse s).board.queue = none ∧
    (answerOffer t .refuse s).board.handoff.bound = none ∧
    (answerOffer t .refuse s).pos.schedule = s.pos.schedule.filter (fun e => e.tag != t)) ∧
  (∀ (s : State) t a, s.board.handoff.bound ≠ some t → answerOffer t a s = s) ∧
  (∀ r : BoardRecord,
    (exitBytes r .refused)[6]? = some 2 ∧ (exitBytes r .refused)[7]? = some 3 ∧
    (exitBytes r .leftUnaccepted)[6]? = some 2 ∧ (exitBytes r .leftUnaccepted)[7]? = some 4)

/-- A record that leaves the queue leaves nothing of its board behind: no record, schedule entry, zone note,
raised entry or series-list entry of its tag, no open series, no handoff; its recipe reference is released,
which frees a RETIRED entry left without one; the other records stay in their order, and a HOOD station's
required flow is formed for them. -/
def Obligations.RemovedRecordLeavesNothing : Prop :=
  ∀ t (s : State) r, findRecord t s.board.queue = some r →
    let u := removeRecord t s
    u.board.queue = s.board.queue.filter (fun x => x.tag != t) ∧
    (∀ e ∈ u.pos.schedule, e.tag ≠ t) ∧ (∀ n ∈ u.heat.notes, n.tag ≠ t) ∧
    (∀ x ∈ u.pot.raised, x.tag ≠ t) ∧ t ∉ u.flux.handled ∧
    (∀ x, u.flux.series = some x → x.tag = t → x.drain ≠ none) ∧
    u.board.handoff.bound ≠ some t ∧
    (s.board.handoff.bound ≠ some t → u.board.handoff = s.board.handoff) ∧
    u.board.expected = s.board.expected ∧
    ((∀ i, r.ref ≠ .entry i) → u.recipe = s.recipe) ∧
    (∀ i e, r.ref = .entry i → s.recipe.entry i = some e →
      u.recipe.entry i = (if e.live = false ∧ e.count ≤ 1 then none
        else some { e with count := e.count - 1 })) ∧
    (s.cfg.functions.hood = true → u.fume.required = requiredNow u)

/-! ### Frames heard -/

/-- BAD_FRAME and NUMBER_CONFLICT: a frame that fails a check is counted modulo 256 and changes nothing
else; a valid frame with this station's own number is not taken and drives nothing, sets the isolation count
to 0, and NUMBER CONFLICT stands in one of the station's sets. FRAME_NOT_TAKEN and
FRAME_AIMED_AT_OTHER_STATION: a valid frame that its source or its target keeps from being taken is answered
REFUSE when the target is ALL or this station and not answered otherwise; it sets the isolation count to 0
and leaves the bad-frame count, the peer status table, the expected list, the allotment, the counter and the
loader as they were. -/
def Obligations.FramesNotActedOn : Prop :=
  ((∀ f (s : State), s.active = true → frameCheck f = none →
     exec (.badFrame f) s = .next { s with link := { s.link with
       badCount := (s.link.badCount + 1) % 256, answer := .none } }) ∧
   (∀ k f (s : State), s.active = true → k.lengthOk f.body.length = true → f.src.toNat = s.me →
     s.alarm.place.length = 64 →
     ∃ t, exec (.numberConflict k f) s = .next t ∧ t.link.isolation = 0 ∧ t.link.answer = .none ∧
       t.alarm.standing 57 = true ∧ t.link.badCount = s.link.badCount ∧
       t.link.peers = s.link.peers ∧ t.board.expected = s.board.expected ∧
       t.allot = s.allot ∧ t.pos.counter = s.pos.counter ∧ t.loader = s.loader)) ∧
  (∀ c k f (s : State), (c = .frameNotTaken k f ∨ c = .frameAimedAtOtherStation k f) →
     s.active = true → k.lengthOk f.body.length = true → f.src.toNat ≠ s.me →
     ((k.panelOnly = true ∧ f.src.toNat ≠ s.cfg.panel) ∨ (k.form = .all ∧ f.target ≠ allTarget) ∨
       (k.form = .one ∧ f.target ≠ toStation s.me) ∨ k.form = .panel ∨
       (k.form = .allOrOne ∧ f.target ≠ allTarget ∧ 16 ≤ f.target.toNat)) →
     ∃ t, exec c s = .next t ∧
       t.link.answer = (if f.target = allTarget ∨ f.target = toStation s.me then .refuse else .none) ∧
       t.link.isolation = 0 ∧ t.link.badCount = s.link.badCount ∧ t.link.peers = s.link.peers ∧
       t.board.expected = s.board.expected ∧ t.allot = s.allot ∧ t.pos.counter = s.pos.counter ∧
       t.loader = s.loader)

/-- ALARM_RAISE, ALARM_ACK and ALARM_CLEAR heard by all: refused and ignored in the cases the rule names,
otherwise answered ACCEPT and applied, before what ends every command (the model's choices: codes of 64 and
more, log entry 16; an ALARM RAISE of the level-0 code 56 whose state byte is not 2 enters with the frame's
state, log entry 45; the isolation count set to 0 first, so that an ALARM ACK of code 53 acts before the end of
LINK ISOLATED is reported, log entries 43 and 49; what ends a command, log entry 8). -/
def Obligations.AlarmFramesApplied : Prop :=
  (∀ f (s : State), heardByAll .alarmRaise f s →
    let s1 := setIsolation 0 s
    let code := byteAt f.body 0
    let e : LineEntry :=
      ⟨f.src.toNat, code, byteAt f.body 1, byteAt f.body 2 == 2, byteAt f.body 3 != 0⟩
    if f.src.toNat = s.cfg.panel ∨ 58 ≤ code ∨ alarmLevel code ≠ some (byteAt f.body 1) then
      exec (.alarmRaise f) s = .next (finish (driveAnswer .refuse s1))
    else
      exec (.alarmRaise f) s =
        .next (finish (driveAnswer .accept { s1 with alarm := s1.alarm.enter e }))) ∧
  (∀ f (s : State), heardByAll .alarmAck f s →
    let s1 := setIsolation 0 s
    let code := if f.body.length = 2 then some (byteAt f.body 1) else none
    if byteAt f.body 0 = s.cfg.panel ∨ (∃ c, code = some c ∧ 58 ≤ c ∧ c ≤ 63) then
      exec (.alarmAck f) s = .next (finish (driveAnswer .refuse s1))
    else
      exec (.alarmAck f) s =
        .next (finish (driveAnswer .accept (applyAck (byteAt f.body 0) code s1)))) ∧
  (∀ f (s : State), heardByAll .alarmClear f s →
    let s1 := setIsolation 0 s
    let gone : LineEntry → Bool := fun e => e.origin == f.src.toNat && e.code == byteAt f.body 0
    if f.src.toNat = s.cfg.panel then
      exec (.alarmClear f) s = .next (finish (driveAnswer .refuse s1))
    else
      exec (.alarmClear f) s =
        .next (finish (driveAnswer .accept { s1 with alarm := s1.alarm.strike gone })))

/-- What an acknowledgement does to an own pending code: a LIVE code goes into service, or to idle when its
condition has gone; a LATCHED one whose recovery is a condition goes into service, and to idle when that
condition holds. OVERTEMP goes into service with its recovery flag and its channel's own record of it clear.
A code that is not pending stays where it is. A specific acknowledgement puts the PENDING entry of its
origin and code in service, a non-specific one the first PENDING entry of its origin, which an ordered list
holds at the highest level (of two at one level the earlier listed: the model's choice, log entry 50); one for
the own number also acts on the own code named, or on the pending code of the highest level. -/
def Obligations.AcknowledgementMovesTheCode : Prop :=
  (∀ c (s : State), c < s.alarm.place.length →
    (s.alarm.at c = .pending false → alarmLive c = true → (ackOwn c s).alarm.at c = .inService) ∧
    (s.alarm.at c = .pending true → alarmLive c = true → (ackOwn c s).alarm.at c = .idle) ∧
    (s.alarm.at c = .pending false → alarmLive c = false → alarmRecovery c = .atOnce →
      (ackOwn c s).alarm.at c = .idle) ∧
    (s.alarm.at c = .pending false → alarmLive c = false → alarmRecovery c = .resetOnly →
      (ackOwn c s).alarm.at c = .inService) ∧
    (s.alarm.at c = .pending false → alarmLive c = false → alarmRecovery c = .condition →
      ¬(18 ≤ c ∧ c ≤ 23) →
      (ackOwn c s).alarm.at c = if s.alarm.flag c then .idle else .inService) ∧
    ((∀ g, s.alarm.at c ≠ .pending g) → ackOwn c s = s)) ∧
  (∀ c g (s : State), 18 ≤ c → c ≤ 23 → c < s.alarm.place.length → s.alarm.at c = .pending g →
    let t := ackOwn c s
    t.alarm.at c = .inService ∧ t.alarm.flag c = false ∧
    ∀ ch, channel s (c - 18) = some ch → channel t (c - 18) = some { ch with cool := false }) ∧
  (∀ o c (s : State),
    let u := { s with alarm := { s.alarm with list := s.alarm.list.map fun e =>
      if e.origin = o ∧ e.code = c ∧ e.inService = false then { e with inService := true } else e } }
    applyAck o (some c) s = if o = s.me then ackOwn c u else u) ∧
  (∀ o (s : State) pre e post, s.alarm.list = pre ++ e :: post → e.origin = o → e.inService = false →
    (∀ x ∈ pre, x.origin = o → x.inService = true) →
    (∀ x ∈ pre ++ post, x.origin = o → x.code ≠ e.code) →
    (s.alarm.list.Pairwise (fun x y => y.level ≤ x.level) →
      ∀ x ∈ s.alarm.list, x.origin = o → x.inService = false → x.level ≤ e.level) ∧
    let u := { s with alarm := { s.alarm with list := pre ++ { e with inService := true } :: post } }
    (o ≠ s.me → applyAck o none s = u) ∧
    (∀ c g, o = s.me → c < 64 → s.alarm.at c = .pending g →
      (∀ d h, d < 64 → d ≠ c → s.alarm.at d = .pending h → levelOf d < levelOf c) →
      applyAck o none s = ackOwn c u) ∧
    (o = s.me → (∀ c g, c < 64 → s.alarm.at c ≠ .pending g) → applyAck o none s = u)) ∧
  (∀ o (s : State), (∀ e ∈ s.alarm.list, e.origin = o → e.inService = true) →
    (o ≠ s.me → applyAck o none s = s) ∧
    (∀ c g, o = s.me → c < 64 → s.alarm.at c = .pending g →
      (∀ d h, d < 64 → d ≠ c → s.alarm.at d = .pending h → levelOf d < levelOf c) →
      applyAck o none s = ackOwn c s) ∧
    (o = s.me → (∀ c g, c < 64 → s.alarm.at c ≠ .pending g) → applyAck o none s = s))

/-- Entering an announcement in the line alarm list: a listed one takes the new state and gone mark in its
place; an unlisted one joins while there is room; the order by level and the bound of 32 are kept; and a
full list always sets the incomplete flag. An ordered full list gives up its IN-SERVICE entry of the lowest
level; without one its PENDING entry of the lowest level when that is below the new one's, a gone one first;
the latest among equals; otherwise the new one is not listed. -/
def Obligations.LineListTakesAnAnnouncement : Prop :=
  (∀ (a : AlarmUnit) e, a.list.length ≤ 32 →
    (a.enter e).list.length ≤ 32 ∧
    (a.list.any (LineEntry.is e.origin e.code) = true →
      (a.enter e).list = a.list.map (fun x =>
        if x.is e.origin e.code then { x with inService := e.inService, gone := e.gone } else x) ∧
      (a.enter e).incomplete = a.incomplete) ∧
    (a.list.any (LineEntry.is e.origin e.code) = false → a.list.length < 32 →
      e ∈ (a.enter e).list ∧ (a.enter e).list.length = a.list.length + 1 ∧
      (a.enter e).incomplete = a.incomplete) ∧
    (a.list.any (LineEntry.is e.origin e.code) = false → a.list.length = 32 →
      (a.enter e).incomplete = true) ∧
    (a.list.Pairwise (fun x y => y.level ≤ x.level) →
      (a.enter e).list.Pairwise (fun x y => y.level ≤ x.level))) ∧
  (∀ (a : AlarmUnit) e, a.list.length ≤ 32 → a.list.Pairwise (fun x y => y.level ≤ x.level) →
    a.list.any (LineEntry.is e.origin e.code) = false →
    let placed := fun l : List LineEntry => l.filter (fun x => decide (e.level ≤ x.level)) ++
      e :: l.filter (fun x => decide (x.level < e.level))
    (a.list.length < 32 → (a.enter e).list = placed a.list) ∧
    (∀ pre x post, a.list.length = 32 → a.list = pre ++ x :: post → x.inService = true →
      (∀ y ∈ a.list, y.inService = true → x.level ≤ y.level) →
      (∀ y ∈ post, y.inService = true → x.level < y.level) →
      (a.enter e).list = placed (pre ++ post)) ∧
    (∀ pre x post, a.list.length = 32 → a.list = pre ++ x :: post →
      (∀ y ∈ a.list, y.inService = false ∧ x.level ≤ y.level) → x.level < e.level →
      (x.gone = true ∨ ∀ y ∈ a.list, y.level = x.level → y.gone = false) →
      (∀ y ∈ post, y.level = x.level → x.gone = true ∧ y.gone = false) →
      (a.enter e).list = placed (pre ++ post)) ∧
    (a.list.length = 32 → (∀ y ∈ a.list, y.inService = false ∧ e.level ≤ y.level) →
      (a.enter e).list = a.list))

/-- BOARD_NOTICE from the panel: refused for a local tag, an expected tag or a held tag, deferred with 16
entries, otherwise accepted and appended WAITING at the tail. BOARD_WITHDRAW, BOARD_EXIT and ADMITTED on the
expected list: what they answer and what the list holds afterwards. -/
def Obligations.ExpectedListFollowsFrames : Prop :=
  (∀ f (s : State), panelToAll .boardNotice f s →
     let tag := field f.body 0 2
     ∃ t, exec (.boardNotice f) s = .next t ∧
       (if 65280 ≤ tag ∨ (∃ e ∈ s.board.expected, e.tag = tag) ∨
           (∃ r ∈ s.board.queue, r.tag = tag) then
         t.link.answer = .refuse ∧ t.board.expected = s.board.expected
       else if 16 ≤ s.board.expected.length then
         t.link.answer = .defer ∧ t.board.expected = s.board.expected
       else
         t.link.answer = .accept ∧
         t.board.expected.map (fun e => (e.tag, e.product, e.length, e.admitted)) =
           s.board.expected.map (fun e => (e.tag, e.product, e.length, e.admitted))
             ++ [(tag, productAt f.body 2, field f.body 5 3, false)])) ∧
  ((∀ f (s : State), panelToAll .boardWithdraw f s →
     let tag := field f.body 0 2
     ∃ t, exec (.boardWithdraw f) s = .next t ∧
       (if ∃ e ∈ s.board.expected, e.tag = tag then
         t.link.answer = .accept ∧
         t.board.expected = s.board.expected.filter fun e => e.tag != tag
       else
         t.board.expected = s.board.expected ∧
         t.link.answer = if ∃ r ∈ s.board.queue, r.tag = tag then .refuse else .accept)) ∧
   (∀ f (s : State), heardByAll .boardExit f s →
     ∃ t, exec (.boardExit f) s = .next t ∧ t.link.answer = .accept ∧
       t.board.expected = s.board.expected.filter fun e => e.tag != field f.body 0 2) ∧
   (∀ f (s : State), heardByAll .admitted f s →
     ∃ t, exec (.admitted f) s = .next t ∧
       ((∃ p, peer s f.src.toNat = some p ∧ p.status.functions.entry = true) →
         t.link.answer = .accept ∧
         t.board.expected = s.board.expected.map (fun e =>
           if e.tag == field f.body 0 2 then { e with admitted := true } else e)) ∧
       ((∀ p, peer s f.src.toNat = some p → p.status.functions.entry = false) →
         t.link.answer = .refuse ∧ t.board.expected = s.board.expected)))

/-- BOARD_OFFER aimed at this station: its answer by the first case that applies; after an ACCEPT no
expected entry has the offered tag, an INBOUND record made from the body stands in the queue and its ARRIVAL
DEADLINE in the schedule (with nothing else due); after any other answer the expected list stands. -/
def Obligations.BoardOfferAnswered : Prop :=
  ∀ f (s : State), aimedHere .boardOffer f s →
    let tag := field f.body 0 2
    ∃ t, exec (.boardOffer f) s = .next t ∧
      t.link.answer =
        (if s.cfg.upstream ≠ some f.src.toNat then .refuse
        else if s.loader.station = .joining then .defer
        else if ∃ r ∈ s.board.queue, r.tag = tag then .refuse
        else if 8 ≤ s.board.queue.length then .defer
        else .accept) ∧
      (t.link.answer = .accept → ∀ e ∈ t.board.expected, e.tag ≠ tag) ∧
      (t.link.answer ≠ .accept → t.board.expected = s.board.expected) ∧
      (t.link.answer = .accept → (∀ e ∈ s.pos.schedule, reached s.pos.counter e.due = false) →
        s.board.handoff.bound ≠ some tag →
        0 < s.cfg.geometry.gap + s.cfg.geometry.arrivalTol →
        s.cfg.geometry.gap + s.cfg.geometry.arrivalTol < 8388608 →
        (∃ r ∈ t.board.queue, r.tag = tag ∧ r.product = productAt f.body 2 ∧
          r.stray = (byteAt f.body 5 != 0) ∧ r.length = field f.body 6 3 ∧ r.lead = none ∧
          r.trail = none ∧ r.state = .inbound ∧
          r.volume = (if (byteAt f.body 9).testBit 2 then some (field f.body 20 2) else none)) ∧
        (s.pos.schedule.length < 48 →
          (⟨tag, .arrivalDeadline, 0, s.pos.counter
            + BitVec.ofNat 24 (s.cfg.geometry.gap + s.cfg.geometry.arrivalTol)⟩ : Event)
              ∈ t.pos.schedule))

/-- RECIPE_PAGE from the panel, to all or to one station: refused for a service product or contents out of range
(a chip enable above 1 lies outside: log entry 14), accepted and not stored when the kind is not needed,
otherwise offered to every entry of the product, with DEFER when one found no slot, even where another stored it
(log entry 13). A page aimed at another station is taken in the same way, and nothing is driven in its slot. At
an entry, a resident page of a LIVE entry is replaced in its slot under a new revision, fetch state and used bit
kept; a RETIRED entry keeps what it has, and the same revision is ignored; a page without room is not stored and
DIRECTORY FULL appears. A body holds a page exactly where its length and kind byte agree and each value of the
contents lies in its range. -/
def Obligations.RecipePageAnswered : Prop :=
  (∀ f (s : State), s.active = true → Kind.recipePage.lengthOk f.body.length = true →
    f.src.toNat ≠ s.me → f.src.toNat = s.cfg.panel → (f.target = allTarget ∨ f.target.toNat < 16) →
    let s1 := setIsolation 0 s
    let drive := fun a =>
      driveAnswer (if f.target = allTarget ∨ f.target = toStation s.me then a else Answer.none)
    (recipePageBody f.body = none → exec (.recipePage f) s = .next (finish (drive .refuse s1))) ∧
    (∀ p, recipePageBody f.body = some p → productAt f.body 0 = none →
      exec (.recipePage f) s = .next (finish (drive .accept s1))) ∧
    (∀ p c, recipePageBody f.body = some p → productAt f.body 0 = some c → 1048560 ≤ c →
      exec (.recipePage f) s = .next (finish (drive .refuse s1))) ∧
    (∀ p c, recipePageBody f.body = some p → productAt f.body 0 = some c → c < 1048560 →
      s.cfg.functions.needs p.kind = false →
      exec (.recipePage f) s = .next (finish (drive .accept s1))) ∧
    (∀ p c, recipePageBody f.body = some p → productAt f.body 0 = some c → c < 1048560 →
      s.cfg.functions.needs p.kind = true →
      let r := storeAll p (field f.body 4 2) (pageEntries c s.recipe) (false, s1)
      exec (.recipePage f) s =
        .next (finish (drive (if r.1 then .defer else .accept) r.2)))) ∧
  (∀ i p rev (s : State) e x, s.recipe.entry i = some e → i < s.recipe.dir.length →
    e.page p.kind = some x →
    (e.live = true → x.revision ≠ rev → x.slot < s.recipe.slots.length →
      ∃ e', storeAt i p rev s = (.stored, { s with recipe := { s.recipe with
          dir := s.recipe.dir.set i (some e'), slots := s.recipe.slots.set x.slot (some p) } }) ∧
        e'.page p.kind = some ⟨x.slot, rev⟩ ∧ (∀ k, k ≠ p.kind → e'.page k = e.page k) ∧
        e'.product = e.product ∧ e'.live = true ∧ e'.fetch = e.fetch ∧ e'.used = e.used ∧
        e'.count = e.count ∧ e'.timer = e.timer) ∧
    (e.live = false ∨ x.revision = rev → storeAt i p rev s = (.unwanted, s))) ∧
  (∀ i p rev (s : State) e, s.recipe.entry i = some e → e.page p.kind = none →
    (s.recipe.roomForPage i).1 = none →
    (storeAt i p rev s).1 = .noRoom ∧
    (storeAt i p rev s).2.recipe = (s.recipe.roomForPage i).2 ∧
    (s.alarm.place.length = 64 → (storeAt i p rev s).2.alarm.standing 38 = true)) ∧
  (∀ b p,
    let n := field b
    let within := fun lo o k hi => lo ≤ n o k ∧ n o k ≤ hi
    recipePageBody b = some p ↔
      (b.length = 72 ∧ n 3 1 = 1 ∧ (∀ i, i < 33 → n (6 + 2 * i) 2 ≤ 4000) ∧
        p = .heat ⟨n 6 2, (List.range 16).map (fun z => n (8 + 2 * z) 2),
          (List.range 16).map (fun z => n (40 + 2 * z) 2)⟩) ∨
      (b.length = 16 ∧ n 3 1 = 2 ∧ within 0 7 2 1000 ∧ within 0 9 2 1000 ∧ within 20 11 2 2000 ∧
        within 5 13 1 200 ∧ within 1 14 1 255 ∧ within 0 15 1 50 ∧
        p = .flux ⟨BitVec.ofNat 8 (n 6 1), n 7 2, n 9 2, n 11 2, n 13 1, n 14 1, n 15 1⟩) ∨
      (b.length = 9 ∧ n 3 1 = 3 ∧ n 8 1 ≤ 1 ∧ p = .wave ⟨n 6 1, n 7 1, n 8 1 = 1⟩))

/-- A page of the last missing kind offered to an entry while a slot is free: the entry holds the page and
becomes COMPLETE with its timer cancelled, and its references are RESOLVED. FETCH_TIMER_EXPIRY: a FETCHING
entry whose timer runs becomes FAILED and keeps the rest. -/
def Obligations.FetchEnds : Prop :=
  (∀ i p rev (s : State) e n, s.recipe.entry i = some e → i < s.recipe.dir.length →
     e.page p.kind = none → s.cfg.functions.needs p.kind = true →
     (∀ k, k ≠ p.kind → e.missing s.cfg.functions k = false) →
     s.recipe.freeSlot = some n → n < s.recipe.slots.length →
     ∃ e', (storeAt i p rev s).1 = .stored ∧ (storeAt i p rev s).2.recipe.entry i = some e' ∧
       e'.fetch = .complete ∧ e'.timer = none ∧ e'.count = e.count ∧ e'.live = e.live ∧
       (storeAt i p rev s).2.recipe.pageOf i p.kind = some p ∧
       (storeAt i p rev s).2.recipe.status (.entry i) = .resolved) ∧
  (∀ i (s : State) e, s.active = true → s.recipe.entry i = some e → e.fetch = .fetching →
     e.timer ≠ none →
     exec (.fetchTimerExpiry i) s = .next (finish { s with
       recipe := s.recipe.setEntry i (some { e with fetch := .failed, timer := none }) }))

/-- RECIPE_WITHDRAW from the panel: a service code is refused; a LIVE entry with references becomes RETIRED
and keeps the rest, and one without is freed with its slots; a product without a LIVE entry changes nothing.
-/
def Obligations.RecipeWithdrawRetires : Prop :=
  ∀ f (s : State) c, panelToAll .recipeWithdraw f s → productAt f.body 0 = some c →
    let s1 := setIsolation 0 s
    (1048560 ≤ c → exec (.recipeWithdraw f) s = .next (finish (driveAnswer .refuse s1))) ∧
    (c < 1048560 → s.recipe.liveEntry c = none →
      exec (.recipeWithdraw f) s = .next (finish (driveAnswer .accept s1))) ∧
    (∀ i e, c < 1048560 → s.recipe.liveEntry c = some i → s.recipe.entry i = some e → 0 < e.count →
      exec (.recipeWithdraw f) s = .next (finish (driveAnswer .accept
        { s1 with recipe := s.recipe.setEntry i (some { e with live := false }) }))) ∧
    (∀ i e, c < 1048560 → s.recipe.liveEntry c = some i → s.recipe.entry i = some e → e.count = 0 →
      exec (.recipeWithdraw f) s =
        .next (finish (driveAnswer .accept { s1 with recipe := s.recipe.free i e })) ∧
      (s.recipe.free i e).entry i = none ∧
      (∀ n ∈ e.slots, (s.recipe.free i e).slots.getD n none = none) ∧
      (∀ n, n ∉ e.slots → (s.recipe.free i e).slots.getD n none = s.recipe.slots.getD n none) ∧
      (∀ j, j ≠ i → (s.recipe.free i e).entry j = s.recipe.entry j))

/-- STATUS: answered ACCEPT, and the source's entry of the peer status table is replaced whole at age 0;
every other entry, the counter and the loader stay. The list is brought into line first (PENDING entries of
the source leave it at pending count 0, IN-SERVICE ones at CONFIG FAULT or start mark 1), then the adopted
flag at the covering station's STATUS, the fan reference (at any source: log entry 42) and admission; the
isolation count is 0 before all of it (log entry 43). -/
def Obligations.StatusReplacesThePeer : Prop :=
  (∀ f (s : State), heardByAll .status f s →
    ∃ t, exec (.status f) s = .next t ∧ t.link.answer = .accept ∧
      t.link.peers = s.link.peers.set f.src.toNat (some ⟨statusBody f.body, 0⟩) ∧
      t.link.isolation = 0 ∧ t.pos.counter = s.pos.counter ∧ t.loader = s.loader) ∧
  (∀ f (s : State), heardByAll .status f s →
    let s1 := setIsolation 0 s
    let n := f.src.toNat
    let st := statusBody f.body
    let u := { s1 with
      alarm := alignList n st s1.alarm
      link := { s1.link with peers := s1.link.peers.set n (some ⟨st, 0⟩) } }
    let v := formFan (if n = s.cfg.cover then formAdopted u else u)
    exec (.status f) s = .next (finish (driveAnswer .accept
      (if s.cfg.member n then judgeAdmission v else v)))) ∧
  (∀ n st (a : AlarmUnit),
    let l := a.list.filter fun e => !(e.origin == n &&
      (if e.inService then st.station == .configFault || st.startMark else st.pendingCount == 0))
    (alignList n st a).list = l ∧ (alignList n st a).place = a.place ∧
    (alignList n st a).flags = a.flags ∧
    ((alignList n st a).incomplete = true ↔ a.incomplete = true ∧ (a.list = [] ∨ l ≠ [])))

/-- SNAPSHOT from the panel: deferred and ignored while a snapshot is latched; otherwise the counter, the
channels' temperatures and duties, the level and the flow are latched, and the report queued. -/
def Obligations.SnapshotLatchedOnce : Prop :=
  ∀ f (s : State), panelToAll .snapshot f s →
    let s1 := setIsolation 0 s
    (s.pos.snapshot ≠ none → exec (.snapshot f) s = .next (finish (driveAnswer .defer s1))) ∧
    (s.pos.snapshot = none → ∃ v : Snapshot,
      v.number = byteAt f.body 0 ∧ v.counter = s.pos.counter ∧
      (∀ k, k < 6 → (s.cfg.channel k).fn ≠ .unused → ∀ c, channel s k = some c →
        v.temps[k]? = some (some c.measured) ∧ v.duties[k]? = some c.duty) ∧
      (∀ k, k < 6 → (s.cfg.channel k).fn = .unused → v.temps[k]? = some none) ∧
      v.quiet = (match s.pot.avg, s.pot.level with
        | some a, some l => if s.cfg.functions.pot then some (a, l) else none
        | _, _ => none) ∧
      v.flow = (if s.cfg.functions.hood then some s.fume.measured else none) ∧
      exec (.snapshot f) s = .next (finish (driveAnswer .accept
        (enqueue .position (toStation s.cfg.panel) (.snapshotReport v)
          { s1 with pos := { s1.pos with snapshot := some v } }))))

/-- RESTART from the panel aimed at this station: refused with a board in the queue; otherwise ACCEPT, and the
station is in JOINING with round count 0; its counter, tally, expected list, directory products, page slots,
hand and peers are kept; a FETCHING entry is FAILED and no fetch timer runs; its grants, schedule, series and
channels' regulation are cleared, with the values of log entry 7 where the spec gives none. Its alarm sets are
emptied, its selection pointers 0 and its own entries gone from the line alarm list before the end of the
command (log entry 8); after it none of its codes is in service, and only LIVE ones and REVERSE TRAVEL stand in
a set. A STATUS with pending count 0 and start mark 1 is queued, room given. That a channel's record of a cool
sample is cleared too, and that the isolation count is 0 before the rest, is the model's choice (log entries 44
and 43). -/
def Obligations.RestartBeginsJoiningAgain : Prop :=
  ∀ f (s : State), aimedHere .restart f s → f.src.toNat = s.cfg.panel →
    (s.board.queue ≠ [] →
      exec (.restart f) s = .next (finish (driveAnswer .refuse (setIsolation 0 s)))) ∧
    (s.board.queue = [] →
      ∃ t, exec (.restart f) s = .next t ∧ t.link.answer = .accept ∧
        t.loader = { s.loader with station := .joining, roundCount := 0 } ∧
        t.pos.counter = s.pos.counter ∧ t.pos.tally = s.pos.tally ∧
        t.pos.entryS = s.pos.entryS ∧ t.pos.exitS = s.pos.exitS ∧ t.pos.schedule = [] ∧
        t.board.expected = s.board.expected ∧ t.board.gate = none ∧ t.board.spacing = none ∧
        t.recipe = { s.recipe with dir := s.recipe.dir.map fun e => e.map fun d =>
          { d with timer := none, fetch := if d.fetch = .fetching then .failed else d.fetch } } ∧
        t.link.peers = s.link.peers ∧ t.link.badCount = s.link.badCount ∧ t.link.isolation = 0 ∧
        t.allot.view = s.allot.view ∧ t.allot.g0 = 0 ∧ t.allot.g1 = 0 ∧
        t.allot.caps = List.replicate 6 0 ∧ t.allot.short = 0 ∧ t.allot.roundAge = some 0 ∧
        t.heat.channels = s.cfg.channels.map Channel.cold ∧ t.flux.series = none ∧
        t.flux.noFlow = 0 ∧ t.pot.ring = s.pot.ring ∧ t.pot.budget = s.pot.budget ∧
        t.pot.feed = .ready ∧ t.fume.det = Detector.cold ∧ t.fume.lost = 0 ∧
        let s1 := setIsolation 0 s
        let w := warmBlocks s1
        t = finish (driveAnswer .accept (warmRestart s1)) ∧
        w.alarm.place = List.replicate 64 .idle ∧ w.alarm.rot = List.replicate 8 0 ∧
        w.alarm.list = s.alarm.list.filter (fun e => e.origin != s.me) ∧
        w.alarm.incomplete = (s.alarm.incomplete && w.alarm.list != []) ∧
        w.alarm.flags = s.alarm.flags ∧
        (warmRestart s1).alarm.list = w.alarm.list ∧ (warmRestart s1).alarm.rot = w.alarm.rot ∧
        (∀ c, t.alarm.at c ≠ .inService ∧ (alarmLive c = false → c ≠ 36 → t.alarm.at c = .idle)) ∧
        ((s.link.queue.filter (·.inTx)).length < 12 → ∃ e f, e ∈ (warmRestart s1).link.queue ∧
          e.inTx = false ∧ e.target = allTarget ∧ e.body = .status f ∧ f.station = .joining ∧
          f.pendingCount = 0 ∧ f.startMark = true))

/-! ### Periods -/

/-- STATUS_PERIOD and PEER_STATUS_STALE: an expiry of the status period queues a STATUS, offers a BLOCKED
board again, judges admission and forms the fan reference (in this order: log entry 24), which restarts the
period and moves neither the counter nor the station state, the peers, the channels or the allotment; one
overtaken by a STATUS queued in the same millisecond is void. A heard entry is stale afterwards (the model
takes the command at its word, log entry 3), the other entries stand, the own number's is always fresh, and
PEER STALE holds when the entry is another member's. -/
def Obligations.StatusPeriodAndStalePeers : Prop :=
  (∀ s : State, s.active = true → OwnTimer.statusPeriod ∉ s.expiries.lapsed →
    (∃ e, exec .statusPeriod s = .next (finish (formFan (judgeAdmission (reofferBlocked
      (queueStatus false { s with expiries := e })))))) ∧
    ∃ t, exec .statusPeriod s = .next t ∧ t.link.statusAge = some 0 ∧
      t.pos.counter = s.pos.counter ∧ t.loader = s.loader ∧ t.link.peers = s.link.peers ∧
      t.heat.channels = s.heat.channels ∧ t.allot = s.allot) ∧
  (∀ s : State, s.active = true → OwnTimer.statusPeriod ∈ s.expiries.lapsed →
    exec .statusPeriod s = .next (finish { s with expiries :=
      { s.expiries with lapsed := s.expiries.lapsed.filter (fun x => x != .statusPeriod) } })) ∧
  (∀ n (s : State) p, s.active = true → n < 16 → n ≠ s.me → peer s n = some p →
    ∃ t, exec (.peerStatusStale n) s = .next t ∧ peerFresh t n = false ∧
      (s.cfg.member n = true → peerStale t = true) ∧
      (∀ m, m ≠ n → m ≠ s.me → peer t m = peer s m) ∧
      t.pos.counter = s.pos.counter ∧ t.loader = s.loader) ∧
  (∀ s : State, peer s s.me = some ⟨statusNow s, 0⟩ ∧ peerFresh s s.me = true)

/-- The entry gate opens only at a frame read from the link (which can be a STATUS) or at an expired status
period, in RUNNING at the ENTRY station, with a head, fewer than 8 records, none of them INBOUND or
ENTERING, the spacing mark absent or far enough behind, the own admit flag 1 (formed anew at the status
period), and every other member's entry fresh, its admit flag 1 and its ready-for field the head's product
or NONE. A judgement of admission opens it when all of that holds, and does nothing otherwise. Opening it makes
an INBOUND record of the head in the queue, which takes over the head's recipe reference, takes the head off
the expected list, inserts its ARRIVAL DEADLINE (refused: the record stays, with EVENT LOST) and queues ADMITTED. -/
def Obligations.GateOpensOnlyWhenTheLineIsReady : Prop :=
  (∀ c (s t : State), exec c s = .next t → s.board.gate = none → t.board.gate ≠ none →
    (c = .statusPeriod ∨ (∃ f, c = .status f) ∨ (∃ raw, c = .badFrame raw) ∨
      (∃ k f, c = .numberConflict k f ∨ c = .frameNotTaken k f ∨ c = .frameAimedAtOtherStation k f)) ∧
    s.loader.station = .running ∧ s.cfg.functions.entry = true ∧ s.board.queue.length < 8 ∧
    (∀ r ∈ s.board.queue, r.state ≠ .inbound ∧ r.state ≠ .entering) ∧
    (∀ p, s.board.spacing = some p →
      reachedBy s.pos.counter p s.cfg.geometry.minSpacing = true) ∧
    (c = .statusPeriod → blockersNow s = Blockers.empty) ∧
    (c ≠ .statusPeriod → s.board.admitFlag = true) ∧
    ∃ h, s.board.head = some h ∧
      ∀ n, n < 16 → s.cfg.member n = true → n ≠ s.me →
        ∃ p, peer t n = some p ∧ p.age < 1000 ∧ p.status.admitFlag = true ∧
          (p.status.readyFor = none ∨ p.status.readyFor = h.product)) ∧
  (∀ s : State, s.board.head = none → judgeAdmission s = s) ∧
  (∀ (s : State) h, s.board.head = some h →
    let ready : Prop := s.cfg.functions.entry = true ∧ s.loader.station = .running ∧
      s.board.gate = none ∧ s.board.queue.length < 8 ∧
      (∀ r ∈ s.board.queue, r.state ≠ .inbound ∧ r.state ≠ .entering) ∧
      (∀ p, s.board.spacing = some p →
        reachedBy s.pos.counter p s.cfg.geometry.minSpacing = true) ∧
      s.board.admitFlag = true ∧
      ∀ n, n < 16 → s.cfg.member n = true → n ≠ s.me →
        ∃ p, peer s n = some p ∧ p.age < 1000 ∧ p.status.admitFlag = true ∧
          (p.status.readyFor = none ∨ p.status.readyFor = h.product)
    let u := openGate h s
    (ready → judgeAdmission s = runEvents [] u ∧
      (headDue u.pos.counter u.pos.schedule = false → judgeAdmission s = u)) ∧
    (¬ready → judgeAdmission s = s)) ∧
  (∀ (s : State) (h : Expected),
    let due := offset s.pos.counter (s.cfg.geometry.gateDistance + s.cfg.geometry.arrivalTol)
    let r : BoardRecord :=
      { tag := h.tag, product := h.product, stray := false, length := h.length, lead := none, trail := none,
        state := .inbound, ref := h.ref, volume := none, exceptions := [], overflow := false }
    let inserted := scheduleInsert s.pos.counter ⟨h.tag, .arrivalDeadline, 0, due⟩ s.pos.schedule
    let u := openGate h s
    u.board.gate = some h.tag ∧ u.recipe = s.recipe ∧ u.alarm = s.alarm ∧ u.pos.counter = s.pos.counter ∧
    u.board.expected = s.board.expected.filter (fun e => e.tag != h.tag) ∧
    u.board.head = (s.board.expected.filter (fun e => e.tag != h.tag)).find? (fun e => !e.admitted) ∧
    (∀ l, inserted = some l → u.pos.schedule = l ∧ u.board.queue = placeRecord r s.board.queue) ∧
    (inserted = none → u.pos.schedule = s.pos.schedule ∧
      (findRecord h.tag s.board.queue = none →
        u.board.queue = placeRecord { r with exceptions := [⟨3, 1, s.me⟩] } s.board.queue)) ∧
    (s.link.queue.length < 12 → ∃ e ∈ u.link.queue, e.inTx = false ∧ e.target = allTarget ∧
      e.body = .admitted h.tag))

/-- POWER_ROUND: HEAT DEMAND queued with the own demands and maxima; the own grants, the caps, the aged view
and the POWER SHORT count that the rules give from the demands and the view as they stood, and the period
restarted. The caps of a class: each channel's demand when the grant covers the class, its share otherwise;
they sum to the grant or less, and a channel without a function has cap 0. The second completed own round of
JOINING takes the station into RUNNING; the first does not. HEAT_DEMAND: refused when a maximum is above 480, a
demand above its maximum or the panel its source; otherwise the source's entry takes the four values at age 0. -/
def Obligations.PowerRoundAndHeatDemand : Prop :=
  (∀ s : State, s.active = true → s.me < 16 →
     let d0 := ownDemand true s
     let d1 := ownDemand false s
     let s0 := (viewDemands true s).sum
     let s1 := (viewDemands false s).sum
     let l := s.cfg.supplyLimit
     let r := l - ((viewDemands true s).map fun d => if s0 ≤ l then d else d * l / s0).sum
     let g0 := if s0 ≤ l then d0 else d0 * l / s0
     let g1 := if s1 ≤ r then d1 else d1 * r / s1
     ∃ t, exec .powerRound s = .next t ∧ t.allot.g0 = g0 ∧ t.allot.g1 = g1 ∧
       t.allot.roundAge = some 0 ∧
       t.allot.view = s.allot.view.map (fun e => e.map fun d => { d with age := min 255 (d.age + 1) }) ∧
       t.allot.short = (if g0 < d0 ∨ g1 < d1 then min 10 (s.allot.short + 1) else 0) ∧
       (∀ k, k < 6 → t.allot.caps[k]? = some (channelCap s g0 g1 k)) ∧
       t.pos.counter = s.pos.counter ∧ t.link.peers = s.link.peers ∧
       exec .powerRound s = .next (finish (countRound (ownRound s))) ∧
       (ownRound s).link = (queueDemand s).link ∧
       (s.link.queue.length < 12 → ∃ e ∈ (ownRound s).link.queue, e.inTx = false ∧
         e.target = allTarget ∧
         e.body = .heatDemand d0 d1 (s.cfg.ownMaximum true) (s.cfg.ownMaximum false))) ∧
  (∀ (s : State) g0 g1,
     let q := channelDemand s
     (∀ k, (s.cfg.channel k).fn = .unused → channelCap s g0 g1 k = 0) ∧
     (∀ k, (s.cfg.channel k).fn = .pot →
       channelCap s g0 g1 k = if ownDemand true s ≤ g0 then q k else q k * g0 / ownDemand true s) ∧
     (∀ k, (s.cfg.channel k).fn.preheat = true →
       channelCap s g0 g1 k =
         if ownDemand false s ≤ g1 then q k else q k * g1 / ownDemand false s) ∧
     ((s.cfg.classChannels true).map (channelCap s g0 g1)).sum ≤ g0 ∧
     ((s.cfg.classChannels false).map (channelCap s g0 g1)).sum ≤ g1) ∧
  (∀ s : State, s.loader.station = .joining →
     (s.loader.roundCount = 0 →
       ∃ t, exec .powerRound s = .next t ∧ t.loader.station = .joining ∧ t.loader.roundCount = 1) ∧
     (s.loader.roundCount = 1 →
       ∃ t, exec .powerRound s = .next t ∧ t.loader.station = .running ∧ t.loader.roundCount = 2)) ∧
  (∀ f (s : State), heardByAll .heatDemand f s →
     let d0 := field f.body 0 2
     let d1 := field f.body 2 2
     let m0 := field f.body 4 2
     let m1 := field f.body 6 2
     ∃ t, exec (.heatDemand f) s = .next t ∧
       (if 480 < m0 ∨ 480 < m1 ∨ m0 < d0 ∨ m1 < d1 ∨ f.src.toNat = s.cfg.panel then
         t.link.answer = .refuse ∧ t.allot = s.allot
       else
         t.link.answer = .accept ∧
         t.allot = { s.allot with view := s.allot.view.set f.src.toNat (some ⟨d0, d1, m0, m1, 0⟩) }))

/-- The grants of both classes over the view: each demand in full when their sum is within what there is for
the class, scaled and floored otherwise; what class 0 leaves is there for class 1; the grants of both
classes sum to no more than the supply limit, and the own grant of each class is no more than the own
demand. Each station number's demands in that view: the own ones, a peer's entered demands while it is fresh and
LINK ISOLATED does not hold and its entered maxima otherwise, the assumed loads of a member never heard, and
nothing for any other number. A channel's demand is its rated power times its guarded output, rounded up; the
own demand of a class is the sum over its channels. -/
def Obligations.GrantsWithinTheSupplyLimit : Prop :=
  (∀ s : State,
    let ds0 := viewDemands true s
    let ds1 := viewDemands false s
    let l := s.cfg.supplyLimit
    let r := l - (grants0 s).sum
    (ds0.sum ≤ l → grants0 s = ds0) ∧
    (l < ds0.sum → grants0 s = ds0.map fun d => d * l / ds0.sum) ∧
    (grants0 s).sum ≤ l ∧
    (ds1.sum ≤ r → grants1 s = ds1) ∧
    (r < ds1.sum → grants1 s = ds1.map fun d => d * r / ds1.sum) ∧
    (grants0 s).sum + (grants1 s).sum ≤ l ∧
    (s.me < 16 → (grants0 s).getD s.me 0 ≤ ownDemand true s ∧
      (grants1 s).getD s.me 0 ≤ ownDemand false s)) ∧
  (∀ (s : State) c n, n < 16 →
    (viewDemands c s)[n]? = some (
      if n = s.me then ownDemand c s
      else match s.allot.view.getD n none with
        | some d => if d.age < 3 ∧ s.link.isolation ≠ 8 then (if c then d.d0 else d.d1)
          else (if c then d.m0 else d.m1)
        | none => if s.cfg.member n then
            ((s.cfg.assumed[n]?).map fun a => if c then a.class0 else a.class1).getD 0
          else 0)) ∧
  (∀ s : State, (∀ c, (viewDemands c s).length = 16) ∧
    (∀ k c, channel s k = some c →
      channelDemand s k * 1000 < (s.cfg.channel k).rated * c.uc + 1000 ∧
      (s.cfg.channel k).rated * c.uc ≤ channelDemand s k * 1000) ∧
    ownDemand true s = (((List.range 6).filter fun k => (s.cfg.channel k).fn == .pot).map
      (channelDemand s)).sum ∧
    ownDemand false s = (((List.range 6).filter fun k => (s.cfg.channel k).fn.preheat).map
      (channelDemand s)).sum)

/-! ### Position and boards -/

/-- ENCODER_PULSE: a reverse pulse adds to the tally up to 65,535; a forward pulse pays the tally back or,
at tally 0, advances the counter by 1 modulo 2^24. The reverse pulse that brings the tally from 49 to 50, and no
other, makes REVERSE TRAVEL appear. No command but an encoder pulse and the resets moves the
counter or the tally. -/
def Obligations.EncoderPulseCounts : Prop :=
  (∀ s : State, s.active = true →
    (∃ t, exec (.encoderPulse false) s = .next t ∧ t.pos.counter = s.pos.counter ∧
      t.pos.tally = min 65535 (s.pos.tally + 1)) ∧
    (0 < s.pos.tally → ∃ t, exec (.encoderPulse true) s = .next t ∧
      t.pos.counter = s.pos.counter ∧ t.pos.tally = s.pos.tally - 1) ∧
    (s.pos.tally = 0 → ∃ t, exec (.encoderPulse true) s = .next t ∧
      t.pos.counter = s.pos.counter + 1 ∧ t.pos.tally = 0)) ∧
  (∀ s : State, s.active = true →
    let u := { s with pos := { s.pos with tally := min 65535 (s.pos.tally + 1) } }
    (s.pos.tally ≠ 49 → exec (.encoderPulse false) s = .next (finish u)) ∧
    (s.pos.tally = 49 → exec (.encoderPulse false) s = .next (finish (appearance 36 u)) ∧
      (s.alarm.place.length = 64 → s.alarm.flag 36 = false ∨ s.cfg.masked 36 = false →
        ∃ t, exec (.encoderPulse false) s = .next t ∧ t.pos.tally = 50 ∧
          t.alarm.standing 36 = true))) ∧
  (∀ c (s t : State), exec c s = .next t → (∀ b, c ≠ .encoderPulse b) →
    (∀ k, c ≠ .coldReset k) → c ≠ .resetRelease →
    t.pos.counter = s.pos.counter ∧ t.pos.tally = s.pos.tally)

/-- SENSOR_INPUT_CHANGE with a debounce distance above 0: the opposite level starts a pending change at the
counter, or leaves the one there; the taken level removes it; no level is taken yet. With the distance 0 the
opposite level is taken at once and its edge handed over. At a counter advance each pending change reached by
the debounce distance is taken at its first-seen position, and its edge runs with the due entries: in RUNNING a
lone edge, or a lone due entry removed from the schedule, is handed to its owner once what came before it has
been reported and announced (log entry 8); outside RUNNING nothing is handed over. A position is reached where
the counter stands less than 2^23 past it, modulo 2^24; of two, the one reached earlier, or to be reached
earlier, comes first. -/
def Obligations.SensorChangesAreTaken : Prop :=
  (∀ w b (s : State), s.active = true → 0 < s.cfg.geometry.debounce →
     ∃ t, exec (.sensorInputChange w b) s = .next t ∧ t.pos.counter = s.pos.counter ∧
       (sensorOf w t).active = (sensorOf w s).active ∧
       (b = (sensorOf w s).active → (sensorOf w t).pending = none) ∧
       (b ≠ (sensorOf w s).active →
         (sensorOf w t).pending = some ((sensorOf w s).pending.getD s.pos.counter))) ∧
  (∀ w b (s : State), s.active = true → s.cfg.geometry.debounce = 0 → b ≠ (sensorOf w s).active →
    (sensorOf w s).pending = none →
    exec (.sensorInputChange w b) s = .next (finish (runEvents [⟨w, b, s.pos.counter⟩]
      (setSensor w ⟨b, none⟩ (setSensorPin w b s)))) ∧
    ∃ t, exec (.sensorInputChange w b) s = .next t ∧ sensorOf w t = ⟨b, none⟩) ∧
  (∀ s : State, s.active = true → s.pos.tally = 0 →
    let c := s.pos.counter + 1
    let ripe := fun (x : SensorState) => match x.pending with
      | some p => reachedBy c p s.cfg.geometry.debounce
      | none => false
    let takes := fun (x : SensorState) => if ripe x then ⟨!x.active, none⟩ else x
    let edges := fun w (x : SensorState) =>
      if ripe x then [(⟨w, !x.active, x.pending.getD 0⟩ : Edge)] else []
    ∃ t, exec (.encoderPulse true) s = .next t ∧ t.pos.entryS = takes s.pos.entryS ∧
      t.pos.exitS = takes s.pos.exitS ∧
      t = finish (runEvents (edges .entry s.pos.entryS ++ edges .exit s.pos.exitS)
        (dropSpacing { s with pos := { s.pos with
          counter := c, entryS := takes s.pos.entryS, exitS := takes s.pos.exitS } }))) ∧
  (∀ es (s : State), s.loader.station ≠ .running → runEvents es s = s) ∧
  (∀ s : State, headDue s.pos.counter s.pos.schedule = false → runEvents [] s = s) ∧
  (∀ e (s : State), s.loader.station = .running →
    let u := deliverEdge e (finish s)
    headDue s.pos.counter s.pos.schedule = false →
    headDue s.pos.counter (finish s).pos.schedule = false →
    headDue u.pos.counter u.pos.schedule = false → runEvents [e] s = u) ∧
  (∀ x xs (s : State), s.loader.station = .running →
    headDue s.pos.counter s.pos.schedule = true → (finish s).pos.schedule = x :: xs →
    reached s.pos.counter x.due = true →
    let u := fireEvent x { finish s with pos := { (finish s).pos with schedule := xs } }
    headDue u.pos.counter u.pos.schedule = false → runEvents [] s = u) ∧
  (∀ (c a b : Pos) d,
    let back := fun (p : Pos) => (c.toNat + 2 ^ 24 - p.toNat) % 2 ^ 24
    let ahead := fun (p : Pos) => (p.toNat + 2 ^ 24 - c.toNat) % 2 ^ 24
    (reached c a = true ↔ back a < 2 ^ 23) ∧ (reachedBy c a d = true ↔ back a < 2 ^ 23 ∧ d ≤ back a) ∧
    (before c a b = true ↔ (back a < 2 ^ 23 ∧ (2 ^ 23 ≤ back b ∨ back b < back a)) ∨
      (2 ^ 23 ≤ back a ∧ 2 ^ 23 ≤ back b ∧ ahead a < ahead b)) ∧
    (offset a d).toNat = (a.toNat + d) % 2 ^ 24)

/-- An insertion into the event schedule: REFUSED exactly when 48 entries are held and none has the key;
otherwise the entry stands once, in the place of any of its key, after every entry due no later and before
every entry due later, and no other entry is lost. A refusal leaves the schedule alone and adds EVENT LOST
with the kind as qualifier; a refused FLUX START adds FLUX SKIPPED and enters the series list, and a refused
WAVE RAISE adds WAVE LOW. -/
def Obligations.ScheduleInsertion : Prop :=
  (∀ c e l,
    (scheduleInsert c e l = none ↔ 48 ≤ l.length ∧ ∀ x ∈ l, e.sameKey x = false) ∧
    (∀ l', scheduleInsert c e l = some l' → ∃ pre post, l' = pre ++ e :: post ∧
      pre ++ post = l.filter (fun x => !e.sameKey x) ∧
      (l.Pairwise (fun x y => before c y.due x.due = false) →
        (∀ x ∈ pre, before c e.due x.due = false) ∧ (∀ x ∈ post, before c e.due x.due = true) ∧
        l'.Pairwise (fun x y => before c y.due x.due = false)))) ∧
  (∀ t k q due (s : State),
    let r := insertEvent t k q due s
    (∀ l, scheduleInsert s.pos.counter ⟨t, k, q, due⟩ s.pos.schedule = some l →
      r = (true, { s with pos := { s.pos with schedule := l } })) ∧
    (∀ b, scheduleInsert s.pos.counter ⟨t, k, q, due⟩ s.pos.schedule = none →
      findRecord t s.board.queue = some b → b.exceptions.length ≤ 4 →
      r.1 = false ∧ r.2.pos = s.pos ∧ ∃ b', findRecord t r.2.board.queue = some b' ∧
        (⟨3, k.code, s.me⟩ : BoardException) ∈ b'.exceptions ∧
        (k = .waveRaise → (⟨9, 0, s.me⟩ : BoardException) ∈ b'.exceptions) ∧
        (k = .fluxStart → t ∉ s.flux.handled →
          (⟨6, 0, s.me⟩ : BoardException) ∈ b'.exceptions ∧ t ∈ r.2.flux.handled)))

/-- The entry sensor's edges. A leading edge closes the gate; the first INBOUND record becomes ENTERING at
the edge position and its EXIT DEADLINE, ZONE ENTER, FLUX START and WAVE RAISE are inserted; without one a
stray with a local tag, origin STRAY and RECIPE DEFAULTED joins the queue while it holds fewer than 8, and
STRAY BOARD appears. A trailing edge sets the spacing mark of the entry station and gives the first record
with a lead and no trail its trail, its measured length and, past the tolerance, LENGTH MISMATCH; an
ENTERING one is INSIDE, and its ZONE LEAVE, FLUX END and WAVE LOWER are inserted. -/
def Obligations.EntryEdgesMoveBoards : Prop :=
  (∀ p (s : State) r, s.board.queue.find? (fun x => x.state == .inbound) = some r →
    let t := entryLeading p s
    let g := s.cfg.geometry
    t.board.gate = none ∧
    (∃ x, findRecord r.tag t.board.queue = some x ∧ x.state = .entering ∧ x.lead = some p ∧
      x.trail = r.trail ∧ x.product = r.product ∧ x.length = r.length ∧ x.ref = r.ref ∧
      x.volume = r.volume) ∧
    (s.pos.schedule.length ≤ 41 →
      (⟨r.tag, .exitDeadline, 0, offset p (g.exitDistance + g.exitTol)⟩ : Event) ∈ t.pos.schedule ∧
      (∀ z, z < 4 → (s.cfg.zone z).machine ≠ 0 →
        (⟨r.tag, .zoneEnter, z, offset p (s.cfg.zone z).start⟩ : Event) ∈ t.pos.schedule) ∧
      (s.cfg.functions.flux = true →
        (⟨r.tag, .fluxStart, 0, offset p (g.fluxPos + (marginPage r.tag t).lead)⟩ : Event)
          ∈ t.pos.schedule) ∧
      (s.cfg.functions.pot = true →
        (⟨r.tag, .waveRaise, 0, offsetBack (offset p g.wavePos) g.raiseLead⟩ : Event)
          ∈ t.pos.schedule))) ∧
  (∀ p (s : State), (∀ x ∈ s.board.queue, x.state ≠ .inbound) → 8 ≤ s.board.queue.length →
    entryLeading p s = appearance 32 { s with board := { s.board with gate := none } }) ∧
  (∀ p (s : State), (∀ x ∈ s.board.queue, x.state ≠ .inbound) → s.board.queue.length < 8 →
    let t := entryLeading p s
    t.board.gate = none ∧ t.board.queue.length = s.board.queue.length + 1 ∧
    (s.alarm.place.length = 64 → t.alarm.standing 32 = true) ∧
    ∃ r ∈ t.board.queue, r.tag = nextLocal s.board.lastLocal s.board.queue ∧ 65280 ≤ r.tag ∧
      r.tag ≤ 65535 ∧ t.board.lastLocal = r.tag ∧ r.product = none ∧ r.stray = true ∧
      r.length = 0 ∧ r.lead = some p ∧ r.trail = none ∧ r.state = .entering ∧ r.ref = .default ∧
      r.volume = none ∧ (⟨1, 0, s.me⟩ : BoardException) ∈ r.exceptions ∧
      (s.pos.schedule.length ≤ 41 → ∀ e ∈ enterEvents r.tag p t,
        (⟨r.tag, e.1, e.2.1, e.2.2⟩ : Event) ∈ t.pos.schedule)) ∧
  (∀ p (s : State),
    let t := entryTrailing p s
    let g := s.cfg.geometry
    t.board.spacing = (if s.cfg.functions.entry then
      (if reachedBy s.pos.counter p g.minSpacing then none else some p) else s.board.spacing) ∧
    ((∀ x ∈ s.board.queue, x.lead = none ∨ x.trail ≠ none) →
      t.board.queue = s.board.queue ∧ t.pos = s.pos) ∧
    (∀ r l, s.board.queue.find? (fun x => x.lead.isSome && x.trail.isNone) = some r →
      findRecord r.tag s.board.queue = some r → r.lead = some l →
      let off := (((p - l).toNat : Int) - r.length).natAbs
      (∃ x, findRecord r.tag t.board.queue = some x ∧ x.trail = some p ∧ x.lead = r.lead ∧
        x.length = (p - l).toNat ∧ x.state = (if r.state = .entering then .inside else r.state) ∧
        (r.length ≠ 0 → g.lengthTol < off → r.exceptions.length < 6 →
          (⟨2, 0, s.me⟩ : BoardException) ∈ x.exceptions) ∧
        (r.length = 0 ∨ off ≤ g.lengthTol → (⟨2, 0, s.me⟩ : BoardException) ∈ x.exceptions →
          (⟨2, 0, s.me⟩ : BoardException) ∈ r.exceptions)) ∧
      (s.pos.schedule.length ≤ 42 →
        (∀ z, z < 4 → (s.cfg.zone z).machine ≠ 0 →
          (⟨r.tag, .zoneLeave, z, offset p (s.cfg.zone z).stop⟩ : Event) ∈ t.pos.schedule) ∧
        (s.cfg.functions.flux = true →
          (⟨r.tag, .fluxEnd, 0, offsetBack (offset p g.fluxPos) (marginPage r.tag t).tail⟩ : Event)
            ∈ t.pos.schedule) ∧
        (s.cfg.functions.pot = true →
          (⟨r.tag, .waveLower, 0, offset p (g.wavePos + g.lowerLag)⟩ : Event) ∈ t.pos.schedule))))

/-- The exit sensor's edges and the deadlines. A leading edge takes the first ENTERING or INSIDE record: it
is FINISHING at the last station, and elsewhere becomes exit-bound with its BOARD OFFER queued, unless one
is exit-bound already. A trailing edge removes a FINISHING record with BOARD EXIT DONE, an OFFERED one with
none and a BLOCKED one with LEFT UNACCEPTED, and is noted while an offer is outstanding. An ARRIVAL DEADLINE
closes the gate opened for its board and removes an INBOUND record, an EXIT DEADLINE an ENTERING or INSIDE
one that is not exit-bound, each with its BOARD EXIT and BOARD MISSING; on any other record it is discarded.
The rows of the table of R68 are tried in its order, FINISHING first and BLOCKED before an outstanding offer:
the model's reading (log entry 11). -/
def Obligations.ExitEdgesAndDeadlinesMoveBoards : Prop :=
  (∀ s : State, (∀ x ∈ s.board.queue, x.state ≠ .entering ∧ x.state ≠ .inside) →
    exitLeading s = s) ∧
  (∀ (s : State) r, s.board.queue.find? (fun x => x.state == .entering || x.state == .inside) = some r →
    (s.board.handoff.bound ≠ none → exitLeading s = s) ∧
    (s.board.handoff.bound = none → s.cfg.downstream = none →
      exitLeading s = { s with board := { s.board with queue := s.board.queue.map fun x =>
        if x.tag == r.tag then { x with state := .finishing } else x } }) ∧
    (∀ d, s.board.handoff.bound = none → s.cfg.downstream = some d →
      findRecord r.tag s.board.queue = some r →
      let t := exitLeading s
      t.board = { s.board with handoff := ⟨some r.tag, true, false, none⟩ } ∧
      (s.link.queue.length < 12 → ∃ e ∈ t.link.queue, e.inTx = false ∧ e.target = toStation d ∧
        e.body = .boardOffer r (s.recipe.status r.ref)))) ∧
  (∀ (s : State) r, s.board.queue.find? (fun x => x.state == .finishing) = some r →
    findRecord r.tag s.board.queue = some r →
    let t := exitTrailing s
    t.board.queue = s.board.queue.filter (fun x => x.tag != r.tag) ∧
    (s.link.queue.length < 12 → ∃ e ∈ t.link.queue, e.inTx = false ∧ e.target = allTarget ∧
      e.body = .boardExit r .done)) ∧
  (∀ s : State, (∀ x ∈ s.board.queue, x.state ≠ .finishing) → s.board.handoff.bound = none →
    exitTrailing s = s) ∧
  (∀ (s : State) b r, (∀ x ∈ s.board.queue, x.state ≠ .finishing) →
    s.board.handoff.bound = some b → findRecord b s.board.queue = some r →
    let t := exitTrailing s
    let gone := s.board.queue.filter (fun x => x.tag != b)
    (r.state = .offered →
      t.board.queue = gone ∧ t.board.handoff.bound = none ∧ t.link = s.link) ∧
    (r.state = .blocked → t.board.queue = gone ∧ t.board.handoff.bound = none ∧
      (s.link.queue.length < 12 → ∃ e ∈ t.link.queue, e.inTx = false ∧ e.target = allTarget ∧
        e.body = .boardExit r .leftUnaccepted)) ∧
    (r.state ≠ .offered → r.state ≠ .blocked → s.board.handoff.outstanding = true →
      t = { s with board := { s.board with
        handoff := { s.board.handoff with trailSeen := true } } }) ∧
    (r.state ≠ .offered → r.state ≠ .blocked → s.board.handoff.outstanding = false → t = s)) ∧
  (∀ t (s : State),
    let u := arrivalDeadline t s
    let g := if s.board.gate = some t then none else s.board.gate
    ((∀ r, findRecord t s.board.queue = some r → r.state ≠ .inbound) →
      u = { s with board := { s.board with gate := g } }) ∧
    (∀ r, findRecord t s.board.queue = some r → r.state = .inbound →
      u.board.gate = g ∧ u.board.queue = s.board.queue.filter (fun x => x.tag != t) ∧
      (s.alarm.place.length = 64 → u.alarm.standing 31 = true) ∧
      (s.link.queue.length < 12 → ∃ e ∈ u.link.queue, e.inTx = false ∧ e.target = allTarget ∧
        e.body = .boardExit r .arrivalDeadline))) ∧
  (∀ t (s : State),
    let u := exitDeadline t s
    ((∀ r, findRecord t s.board.queue = some r →
      (r.state ≠ .entering ∧ r.state ≠ .inside) ∨ s.board.handoff.bound = some t) → u = s) ∧
    (∀ r, findRecord t s.board.queue = some r → (r.state = .entering ∨ r.state = .inside) →
      s.board.handoff.bound ≠ some t →
      u.board.queue = s.board.queue.filter (fun x => x.tag != t) ∧
      (s.alarm.place.length = 64 → u.alarm.standing 31 = true) ∧
      (s.link.queue.length < 12 → ∃ e ∈ u.link.queue, e.inTx = false ∧ e.target = allTarget ∧
        e.body = .boardExit r .exitDeadline)))

/-! ### Recipes and heat -/

/-- Resolving a product. NONE gives DEFAULT and a service code its service reference. The LIVE entry of a
product gains a reference and its used bit, and is fetched anew when it had FAILED. A new product takes the
lowest free entry, with the unentered references to it, and its fetch starts: FETCHING with the timer at 0 and a
RECIPE REQUEST queued, or COMPLETE at once where nothing needed is missing. Without an entry the reference stays
unentered and DIRECTORY FULL appears. At a board's first use a FETCHING reference becomes DEFAULT with RECIPE
DEFAULTED and BOARD DEFAULTED, and no other reference changes. The FLUX and WAVE page of a board: its complete
entry's page, the default page for DEFAULT and a plan DEFAULT, none while FETCHING or for OFF and IDLE; with
INHERIT that of the nearest earlier board that is no service board, where RESOLVED to an entry, and the default
page otherwise. -/
def Obligations.ProductsAreResolved : Prop :=
  (∀ s : State, resolve none s = (.default, s)) ∧
  (∀ c (s : State), 1048560 ≤ c → c ≤ 1048575 → resolve (some c) s = (.service (c - 1048560), s)) ∧
  (∀ c (s : State) i e, c < 1048560 → s.recipe.liveEntry c = some i → s.recipe.entry i = some e →
    let r := resolve (some c) s
    r.1 = .entry i ∧
    (e.fetch ≠ .failed → r.2 =
      { s with recipe := s.recipe.setEntry i (some { e with count := e.count + 1, used := true }) }) ∧
    (e.fetch = .failed → e.full s.cfg.functions = false →
      r.2.recipe.entry i =
        some { e with count := e.count + 1, used := true, fetch := .fetching, timer := some 0 } ∧
      (s.link.queue.length < 12 → ∃ x ∈ r.2.link.queue, x.inTx = false ∧
        x.target = toStation s.cfg.panel ∧
        x.body = .recipeRequest e.product (e.missing s.cfg.functions .heat)
          (e.missing s.cfg.functions .flux) (e.missing s.cfg.functions .wave)))) ∧
  (∀ c (s : State) i, c < 1048560 → s.recipe.liveEntry c = none → s.recipe.freeEntry = some i →
    s.recipe.dir.length = 32 →
    let r := resolve (some c) s
    let f := s.cfg.functions
    let none' := !(f.needs .heat || f.needs .flux || f.needs .wave)
    r.1 = .entry i ∧
    (∃ e, r.2.recipe.entry i = some e ∧ e.product = c ∧ e.live = true ∧ e.used = true ∧
      e.heat = none ∧ e.flux = none ∧ e.wave = none ∧ e.count = unenteredCount c s + 1 ∧
      e.fetch = (if none' then .complete else .fetching) ∧
      e.timer = (if none' then none else some 0)) ∧
    (∀ j, j ≠ i → r.2.recipe.entry j = s.recipe.entry j) ∧
    r.2.board.expected = s.board.expected.map (fun x =>
      { x with ref := if x.ref = .unentered c then .entry i else x.ref }) ∧
    r.2.board.queue = s.board.queue.map (fun x =>
      { x with ref := if x.ref = .unentered c then .entry i else x.ref }) ∧
    (none' = false → s.link.queue.length < 12 → ∃ x ∈ r.2.link.queue, x.inTx = false ∧
      x.target = toStation s.cfg.panel ∧
      x.body = .recipeRequest c (f.needs .heat) (f.needs .flux) (f.needs .wave))) ∧
  (∀ c (s : State), c < 1048560 → s.recipe.liveEntry c = none → s.recipe.roomForProduct.1 = none →
    (resolve (some c) s).1 = .unentered c ∧
    (resolve (some c) s).2.recipe = s.recipe.roomForProduct.2 ∧
    (s.alarm.place.length = 64 → (resolve (some c) s).2.alarm.standing 38 = true)) ∧
  (∀ t (s : State) r, findRecord t s.board.queue = some r →
    (s.recipe.status r.ref ≠ .fetching → firstUse t s = s) ∧
    (s.recipe.status r.ref = .fetching →
      (firstUse t s).recipe = s.recipe.release r.ref ∧
      (s.alarm.place.length = 64 → (firstUse t s).alarm.standing 56 = true) ∧
      ∃ x, findRecord t (firstUse t s).board.queue = some x ∧ x.ref = .default ∧
        x.state = r.state ∧ (r.exceptions.length < 6 →
          (⟨1, 0, s.me⟩ : BoardException) ∈ x.exceptions))) ∧
  (∀ t (s : State),
    (∀ p, boardFlux t s = some p ↔ boardPage t .flux s = some (.flux p)) ∧
    (∀ p, boardWave t s = some p ↔ boardPage t .wave s = some (.wave p)) ∧
    (∀ k, (∀ r ∈ s.board.queue, r.tag ≠ t) → boardPage t k s = none)) ∧
  (∀ (s : State) pre r post k d plan, s.board.queue = pre ++ r :: post → (∀ x ∈ pre, x.tag ≠ r.tag) →
    ((k = PageKind.flux ∧ d = Page.flux s.cfg.fluxPage ∧ plan = ServiceEntry.flux) ∨
      (k = .wave ∧ d = .wave s.cfg.wavePage ∧ plan = ServiceEntry.wave)) →
    let page := boardPage r.tag k s
    (r.ref = .default → page = some d) ∧
    (∀ c, r.ref = .unentered c → page = none) ∧
    (∀ i, r.ref = .entry i → s.recipe.status r.ref ≠ .resolved → page = none) ∧
    (∀ i e x, r.ref = .entry i → s.recipe.entry i = some e → e.fetch = .complete → e.page k = some x →
      page = s.recipe.slots.getD x.slot none) ∧
    ∀ n, r.ref = .service n →
      (plan (s.cfg.service n) = .none → page = none) ∧
      (plan (s.cfg.service n) = .default → page = some d) ∧
      (plan (s.cfg.service n) = .inherit →
        ((∀ y ∈ pre, ∃ m, y.ref = .service m) → page = some d) ∧
        ∀ a y b, pre = a ++ y :: b → (∀ z ∈ b, ∃ m, z.ref = .service m) → (∀ m, y.ref ≠ .service m) →
          (s.recipe.status y.ref ≠ .resolved → page = some d) ∧
          ∀ i e x p, y.ref = .entry i → s.recipe.entry i = some e → e.fetch = .complete →
            e.page k = some x → s.recipe.slots.getD x.slot none = some p → page = some p))

/-- The two sweeps. With no free entry the directory sweep evicts the first entry from the hand, in rising
number and wrapping, with count 0 and its used bit 0: its slots are free and the hand stands after it; the
unreferenced entries examined before it lose their used bit; with none to evict the hand stands where it was
and every entry is referenced or has lost its used bit. With no free slot the page-store sweep does the same
with the entries that hold a slot, and passes without change the entry that wants the page and those without
a slot. -/
def Obligations.SweepsEvict : Prop :=
  (∀ (st : RecipeStore) i, st.freeEntry = some i → st.roomForProduct = (some i, st)) ∧
  (∀ st : RecipeStore, st.dir.length = 32 → st.hand < 32 → st.freeEntry = none →
    let r := st.roomForProduct
    let far := fun j => (j + 32 - st.hand) % 32
    (∀ i, r.1 = some i → i < 32 ∧ r.2.hand = (i + 1) % 32 ∧ r.2.entry i = none ∧
      (∃ e, st.entry i = some e ∧ e.count = 0 ∧ e.used = false ∧
        ∀ n ∈ e.slots, r.2.slots.getD n none = none) ∧
      (∀ j e, j < 32 → st.entry j = some e → far j < far i → e.count ≠ 0 ∨ e.used = true) ∧
      (∀ j e, j < 32 → j ≠ i → st.entry j = some e →
        r.2.entry j = some (if far j < far i ∧ e.count = 0 then { e with used := false } else e))) ∧
    (r.1 = none → r.2.hand = st.hand ∧ r.2.slots = st.slots ∧
      ∀ j e, j < 32 → st.entry j = some e → (e.count ≠ 0 ∨ e.used = true) ∧
        r.2.entry j = some (if e.count = 0 then { e with used := false } else e))) ∧
  (∀ (st : RecipeStore) i n, st.freeSlot = some n → st.roomForPage i = (some n, st)) ∧
  (∀ (st : RecipeStore) i, st.dir.length = 32 → st.hand < 32 → st.slots.length = 64 →
    (∀ j e, st.entry j = some e → ∀ n ∈ e.slots, n < 64) → st.freeSlot = none →
    let r := st.roomForPage i
    let far := fun j => (j + 32 - st.hand) % 32
    r.2.entry i = st.entry i ∧
    (∀ n, r.1 = some n → r.2.slots.getD n none = none ∧
      ∃ j e, j < 32 ∧ j ≠ i ∧ st.entry j = some e ∧ e.count = 0 ∧ e.used = false ∧ e.slots ≠ [] ∧
        r.2.entry j = none ∧ r.2.hand = (j + 1) % 32 ∧
        (∀ m ∈ e.slots, r.2.slots.getD m none = none) ∧
        (∀ k x, k < 32 → k ≠ i → st.entry k = some x → far k < far j →
          x.count ≠ 0 ∨ x.used = true ∨ x.slots = []) ∧
        (∀ k x, k < 32 → k ≠ i → k ≠ j → st.entry k = some x →
          r.2.entry k = some (if far k < far j ∧ x.count = 0 ∧ x.slots ≠ [] then { x with used := false }
            else x))) ∧
    (r.1 = none → r.2.hand = st.hand ∧ r.2.slots = st.slots ∧
      ∀ j e, j < 32 → j ≠ i → st.entry j = some e →
        (e.count ≠ 0 ∨ e.used = true ∨ e.slots = []) ∧
        r.2.entry j = some (if e.count = 0 ∧ e.slots ≠ [] then { e with used := false } else e)))

/-- HEAT_SAMPLE, channel by channel. A good sample (within range, and within 150 of the last where there is a
reference) becomes the measured temperature and ends a lost mark at the third in a row; a fault sample keeps it;
the third in a row switches to the secondary with SENSOR SWITCHED, or marks the sensor lost (log entry 15 for a
sensor lost already). A good sample at the limit trips the channel with OVERTEMP; one more than 50 below it
releases a trip whose alarm is in service. The mode follows from the latches. A REGULATING sample enters the
duty history; a sample that brings BLIND takes its mean as the held duty and starts the blind timer. The
governing board is the first record not past the end point, then the first expected entry, whose page gives the
channel a value other than 0; the setpoint is its value, and the setback once the idle timer has run out; a
raise by more than the guard step starts the ramp guard. A change of setpoint restarts the settle detector and
arms it; a mode that holds it begins at UNSETTLED. A good sample is then given to it, unless it is held:
entering CONFIRMING ends the ramp guard, entering SETTLED armed sets HELD, and a loss clears HELD and makes
SETTLE LOST appear, its recovery condition ended first (the model's choice, log entry 40; a trip released, and
the order within a sample: log entries 25 and 35). The unsettled count adds 1 where the detector does not stand
SETTLED. -/
def Obligations.HeatSampleJudges : Prop :=
  (∀ tc k (s : State) c, s.active = true → (s.cfg.functions.heat = true ∨ s.cfg.functions.pot = true) →
    k < 6 → (s.cfg.channel k).fn ≠ .unused → channel s k = some c → s.alarm.place.length = 64 →
    let cfg := s.cfg.channel k
    let r := tc.getD (if c.secondary then cfg.secondary.getD cfg.primary else cfg.primary) .openCircuit
    let good : Int → Prop := fun v => r = .value v ∧ -500 ≤ v ∧ v ≤ 6500 ∧
      (c.refd = true → (v - c.measured).natAbs ≤ 150)
    let limit : Int := cfg.limit
    let code := 18 + k
    ∃ t d, exec (.heatSample tc) s = .next t ∧ channel t k = some d ∧
      (∀ v, good v → d.measured = v ∧ d.lastGood = true ∧ d.refd = true ∧
        d.secondary = c.secondary ∧ d.faultRun = 0 ∧ d.goodRun = min 3 (c.goodRun + 1) ∧
        (d.lost = true ↔ c.lost = true ∧ c.goodRun < 2) ∧
        (limit ≤ v → d.trip = true ∧ (c.trip = false → t.alarm.standing code = true)) ∧
        (d.cool = true ↔ v < limit - 50 ∧ (c.cool = true ∨ s.alarm.at code = .inService)) ∧
        (v < limit - 50 → s.alarm.at code = .inService → s.alarm.flag code = false →
          d.trip = false ∧ t.alarm.at code = .idle) ∧
        (v < limit → s.alarm.at code ≠ .inService ∨ limit - 50 ≤ v → d.trip = c.trip)) ∧
      ((∀ v, ¬good v) → d.measured = c.measured ∧ d.lastGood = false ∧ d.goodRun = 0 ∧
        d.trip = c.trip ∧ d.cool = c.cool ∧
        (c.faultRun < 2 → d.faultRun = c.faultRun + 1 ∧ d.refd = c.refd ∧
          d.secondary = c.secondary ∧ d.lost = c.lost) ∧
        (2 ≤ c.faultRun → d.faultRun = 0 ∧ d.refd = false ∧
          (c.secondary = false → cfg.secondary ≠ none → d.secondary = true ∧ d.lost = c.lost ∧
            (s.cfg.masked k = false ∨ s.alarm.flag k = false → t.alarm.standing k = true)) ∧
          (c.secondary = true ∨ cfg.secondary = none → d.secondary = c.secondary ∧ d.lost = true))) ∧
      d.fault = c.fault ∧
      d.mode = (if s.loader.station ≠ .running then .idle else if d.fault then .faulted
        else if d.trip then .tripped else if d.lost then .blind else .regulating) ∧
      d.history = (if d.mode = .regulating then c.history.drop 1 ++ [d.duty] else c.history) ∧
      d.held = (if d.mode = .blind ∧ c.mode ≠ .blind then c.history.sum / 64 else c.held) ∧
      (d.mode = .blind → d.blind = if c.mode = .blind then c.blind else some 0) ∧
      (d.mode ≠ .blind → c.mode = .blind → d.blind = none) ∧
      (∀ g, governingOf s k = some g →
        d.governing = some g.1 ∧ d.setpoint = g.2 ∧ d.idle = .off) ∧
      (governingOf s k = none → d.governing = none ∧
        d.setpoint = (if c.idle = .done then cfg.setback else c.setpoint) ∧
        d.idle = (if c.idle = .off then .running 0 else c.idle)) ∧
      (let holds : Mode → Bool := fun m => m == .blind || m == .faulted
       let restarted : Bool := d.setpoint != c.setpoint
       let began : Bool := holds d.mode && !holds c.mode
       let heldLoss : Bool := began && c.det.phase == .settled
       let before : Detector := if restarted || began then ⟨.unsettled, 0⟩ else c.det
       let held : Bool := !restarted && !heldLoss && c.heldFlag
       let armed : Bool := restarted || (!heldLoss && c.armed)
       let guarded : Bool := c.guarded || decide (c.setpoint + s.cfg.guardStep < d.setpoint)
       let lost : Bool := before.phase == .settled && d.det.phase != .settled
       let settles : Bool := before.phase != .settled && d.det.phase == .settled
       (d.lastGood = false ∨ holds d.mode = true →
         d.det = before ∧ d.heldFlag = held ∧ d.armed = armed ∧ d.guarded = guarded) ∧
       (d.lastGood = true → holds d.mode = false →
         d.det = before.feed s.cfg.heatDet (bandTwoSided s.cfg.heatDet d.measured d.setpoint) ∧
         d.heldFlag = (!lost && (held || (settles && armed))) ∧
         d.armed = (!lost && !settles && armed) ∧
         d.guarded = (guarded && !(before.phase != .confirming && d.det.phase == .confirming))) ∧
       (heldLoss = true ∨ (d.lastGood = true ∧ lost = true) → t.alarm.standing (24 + k) = true) ∧
       d.unsettled = if d.det.phase = .settled then c.unsettled else (c.unsettled + 1) % 65536)) ∧
  (∀ (s : State) k,
    (∀ pre r post g, s.board.queue = pre ++ r :: post → (∀ x ∈ pre, recordValue s k x = none) →
      recordValue s k r = some g → governingOf s k = some g) ∧
    ((∀ x ∈ s.board.queue, recordValue s k x = none) →
      (∀ pre e post v, s.board.expected = pre ++ e :: post → (∀ x ∈ pre, refValue s k x.ref = none) →
        refValue s k e.ref = some v → governingOf s k = some (e.tag, v)) ∧
      ((∀ e ∈ s.board.expected, refValue s k e.ref = none) → governingOf s k = none))) ∧
  (∀ (s : State) k (r : BoardRecord),
    let stop := if (s.cfg.channel k).fn.preheat then (s.cfg.zone (s.cfg.channel k).zone).stop
      else s.cfg.geometry.wavePos
    ((∃ p, r.trail = some p ∧ reached s.pos.counter (offset p stop) = true) →
      recordValue s k r = none) ∧
    ((∀ p, r.trail = some p → reached s.pos.counter (offset p stop) = false) →
      recordValue s k r = (refValue s k r.ref).map fun v => (r.tag, v))) ∧
  (∀ (s : State) k ref, (refHeat ref s = none → refValue s k ref = none) ∧
    ∀ p, refHeat ref s = some p →
      let cfg := s.cfg.channel k
      let z := (s.cfg.zone cfg.zone).machine - 1
      (cfg.fn = .preheatTop →
        refValue s k ref = if p.top.getD z 0 = 0 then none else some (p.top.getD z 0)) ∧
      (cfg.fn = .preheatBottom →
        refValue s k ref = if p.bottom.getD z 0 = 0 then none else some (p.bottom.getD z 0)) ∧
      (cfg.fn = .pot → refValue s k ref = if p.pot = 0 then none else some p.pot)) ∧
  (∀ s : State, refHeat .default s = some s.cfg.heatPage ∧ (∀ c, refHeat (.unentered c) s = none) ∧
    (∀ n, refHeat (.service n) s =
      if (s.cfg.service n).heatDefault then some s.cfg.heatPage else none) ∧
    (∀ i, s.recipe.status (.entry i) ≠ .resolved → refHeat (.entry i) s = none) ∧
    (∀ i p, s.recipe.status (.entry i) = .resolved → s.recipe.pageOf i .heat = some (.heat p) →
      refHeat (.entry i) s = some p))

/-- HEAT_SAMPLE: after the sample every channel with a function applies no more than its guarded output and
no more than its cap allows, and nothing in IDLE, TRIPPED and FAULTED or while mains is missing. -/
def Obligations.AppliedDutyIsBounded : Prop :=
  ∀ tc (s : State), s.active = true → (s.cfg.functions.heat = true ∨ s.cfg.functions.pot = true) →
    ∃ t, exec (.heatSample tc) s = .next t ∧
      ∀ k c, k < 6 → (s.cfg.channel k).fn ≠ .unused → channel t k = some c →
        c.duty ≤ c.uc ∧ c.uc ≤ max 1000 c.held ∧
        ((c.mode = .regulating ∨ c.mode = .blind) →
          c.duty ≤ s.allot.caps.getD k 0 * 1000 / (s.cfg.channel k).rated) ∧
        (c.mode = .blind → c.duty ≤ c.held) ∧
        ((c.mode ≠ .regulating ∧ c.mode ≠ .blind) ∨ s.heat.mainsMissing = true → c.duty = 0)

/-- The error and the proportional term: setpoint minus measured temperature clamped to -2000...2000, and Kp
times the error over 10 truncated toward zero, between -51,000 and 51,000. A sample in REGULATING: the
integrator is held at the named cases, clamped to 0...256,000 otherwise; the output is clamped to 0...1000 and
cut by the ramp guard and the extraction ceiling (0 for a preheat channel at the grace zero), then by the cap;
limited-up is set when the output is above 1000, or cut by a ceiling or by the cap, and cleared otherwise;
limited-down when it is below 0; the power-limited count follows; with mains missing the integrator and the
limit flags stand and both outputs are 0. The duty history takes the applied duty of each such sample for its
oldest; it holds 64 zeros after a reset. A sample in BLIND: the guarded output is the held duty cut by the same
ceilings, and 0 with mains missing, and the cap acts on it; integrator, limit flags and history stand; the
power-limited count adds 1 where the cap cuts, or where the extraction ceiling is 0 and the held duty above 0.
The latter counts with mains missing too, in both modes: the model's reading (log entry 21). In the other modes
both outputs are 0. At each entry to BLIND the held duty is the mean of the history, rounded down, and the blind
timer starts; it is cleared when the mode leaves BLIND. -/
def Obligations.RegulationSample : Prop :=
  (∀ (cfg : ChannelCfg) (c : Channel),
     c.error = max (-2000) (min 2000 ((c.setpoint : Int) - c.measured)) ∧
     c.proportional cfg = (cfg.kp * c.error).tdiv 10 ∧
     (cfg.kp ≤ 255 → -51000 ≤ c.proportional cfg ∧ c.proportional cfg ≤ 51000)) ∧
  (∀ (cfg : ChannelCfg) h zero (c : Channel), c.iacc ≤ 256000 →
     let d := c.regulate cfg h zero false
     let i : Int := c.iacc + cfg.ki * c.error
     let raw : Int := c.proportional cfg + (d.iacc / 256 : Nat)
     let u := max 0 (min 1000 raw)
     let ramp : Nat := if c.guarded then 500 else 1000
     let ext : Nat := if cfg.fn.preheat = true ∧ zero = true then 0 else 1000
     d.iacc ≤ 256000 ∧
     (0 < c.error → c.limUp = true → d.iacc = c.iacc) ∧
     (c.error < 0 → c.limDown = true → d.iacc = c.iacc) ∧
     (¬(0 < c.error ∧ c.limUp = true) → ¬(c.error < 0 ∧ c.limDown = true) →
       (d.iacc : Int) = max 0 (min 256000 i)) ∧
     (d.uc : Int) = min u (min ramp ext : Nat) ∧
     d.duty = min d.uc (h * 1000 / cfg.rated) ∧
     (d.limUp = true ↔ 1000 < raw ∨ ((min ramp ext : Nat) : Int) < u ∨ d.duty < d.uc) ∧
     (d.limDown = true ↔ raw < 0) ∧
     d.limited = (if d.duty < d.uc ∨ (ext = 0 ∧ 0 < min u ramp) then (c.limited + 1) % 65536
       else c.limited) ∧
     d.history = c.history.drop 1 ++ [d.duty]) ∧
  (∀ (cfg : ChannelCfg) h zero (c : Channel),
     let d := c.regulate cfg h zero true
     let u := max 0 (min 1000 (c.proportional cfg + (c.iacc / 256 : Nat)))
     let ramp : Nat := if c.guarded then 500 else 1000
     d.iacc = c.iacc ∧ d.uc = 0 ∧ d.duty = 0 ∧ d.limUp = c.limUp ∧ d.limDown = c.limDown ∧
     d.history = c.history.drop 1 ++ [0] ∧
     d.limited = if cfg.fn.preheat = true ∧ zero = true ∧ 0 < min u ramp then (c.limited + 1) % 65536
       else c.limited) ∧
  (∀ (cfg : ChannelCfg) h zero missing (c : Channel),
     let d := c.drive cfg h zero missing
     let ramp : Nat := if c.guarded then 500 else 1000
     let ext : Nat := if cfg.fn.preheat = true ∧ zero = true then 0 else 1000
     (c.mode = .regulating → d = c.regulate cfg h zero missing) ∧
     (c.mode = .blind →
       d.uc = (if missing then 0 else min c.held (min ramp ext)) ∧
       d.duty = min d.uc (h * 1000 / cfg.rated) ∧
       d.limited = (if d.duty < d.uc ∨ (ext = 0 ∧ 0 < c.held) then (c.limited + 1) % 65536
         else c.limited) ∧
       d.iacc = c.iacc ∧ d.limUp = c.limUp ∧ d.limDown = c.limDown ∧ d.held = c.held ∧
       d.history = c.history) ∧
     (c.mode ≠ .regulating → c.mode ≠ .blind → d = { c with uc := 0, duty := 0 })) ∧
  (∀ (cfg : ChannelCfg) (c : Channel),
     (Channel.cold cfg).history = List.replicate 64 0 ∧
     (c.mode ≠ .blind → (c.enterMode .blind).held = c.history.sum / 64 ∧
       (c.enterMode .blind).blind = some 0) ∧
     (∀ m, m ≠ c.mode → m ≠ .blind → (c.enterMode m).held = c.held ∧ (c.enterMode m).blind = none) ∧
     ∀ m, (c.enterMode m).mode = m ∧ (c.enterMode m).history = c.history)

/-- A detector given values within the tight band is SETTLED at the N + K-th of them, counted from UNSETTLED
with run count 0, and not before. What one value does, state by state: a tight one counts the run up to N and K;
any other ends the run, and CONFIRMING with it; SETTLED stands within the relaxed band and is lost outside it. A
channel's value is within a band when its distance from the target is no more than the band, the extraction's
when it falls short of the target by no more. -/
def Obligations.DetectorSettlesAfterNPlusK : Prop :=
  (∀ p : DetParams, 1 ≤ p.n → 1 ≤ p.k →
    (∀ m, m < p.n + p.k → (repeated (Detector.feed p .tight) m Detector.cold).phase ≠ .settled) ∧
    repeated (Detector.feed p .tight) (p.n + p.k) Detector.cold = ⟨.settled, 0⟩ ∧
    (∀ r, (r + 1 < p.n → Detector.feed p .tight ⟨.unsettled, r⟩ = ⟨.unsettled, r + 1⟩) ∧
      (r + 1 = p.n → Detector.feed p .tight ⟨.unsettled, r⟩ = ⟨.confirming, 0⟩) ∧
      (r + 1 < p.k → Detector.feed p .tight ⟨.confirming, r⟩ = ⟨.confirming, r + 1⟩) ∧
      (r + 1 = p.k → Detector.feed p .tight ⟨.confirming, r⟩ = ⟨.settled, 0⟩) ∧
      (∀ b, b ≠ .tight → Detector.feed p b ⟨.unsettled, r⟩ = ⟨.unsettled, 0⟩ ∧
        Detector.feed p b ⟨.confirming, r⟩ = ⟨.unsettled, 0⟩) ∧
      (∀ b, b ≠ .outside → Detector.feed p b ⟨.settled, r⟩ = ⟨.settled, r⟩) ∧
      Detector.feed p .outside ⟨.settled, r⟩ = ⟨.unsettled, 0⟩)) ∧
  ∀ (p : DetParams) (value target : Int),
    let far := max (value - target) (target - value)
    let short := target - value
    (bandTwoSided p value target = .tight ↔ far ≤ p.tight) ∧
    (bandTwoSided p value target = .relaxed ↔ p.tight < far ∧ far ≤ p.relaxed) ∧
    (bandTwoSided p value target = .outside ↔ p.tight < far ∧ p.relaxed < far) ∧
    (bandOneSided p value target = .tight ↔ short ≤ p.tight) ∧
    (bandOneSided p value target = .relaxed ↔ p.tight < short ∧ short ≤ p.relaxed) ∧
    (bandOneSided p value target = .outside ↔ p.tight < short ∧ p.relaxed < short)

/-- IDLE_TIMER_EXPIRY and BLIND_TIMER_EXPIRY: a channel whose idle timer has run out takes the setback as
its next candidate without a governing board (at its next sample: log entry 20); in RUNNING a BLIND channel
becomes FAULTED with its fault latch set, no duty and its output off, and CHANNEL FAULTED stands in one of the
station's sets; the other channels stand. -/
def Obligations.ChannelTimersEnd : Prop :=
  (∀ k (s : State) c n, heatActs s = true → channel s k = some c → c.idle = .running n →
    ∃ t d, exec (.idleTimerExpiry k) s = .next t ∧ channel t k = some d ∧
      d = { c with idle := .done } ∧ (∀ cfg, d.candidate cfg none = cfg.setback) ∧
      (∀ m, m ≠ k → channel t m = channel s m) ∧ t = { s with heat := t.heat }) ∧
  (∀ k (s : State) c, heatActs s = true → s.loader.station = .running →
    (s.cfg.channel k).fn ≠ .unused → channel s k = some c → c.mode = .blind →
    ∃ t d, exec (.blindTimerExpiry k) s = .next t ∧ channel t k = some d ∧ d.mode = .faulted ∧
      d.fault = true ∧ d.duty = 0 ∧ d.acc = 0 ∧ d.iacc = 0 ∧ d.blind = none ∧
      heaterOn t k = false ∧ (∀ m, m ≠ k → channel t m = channel s m) ∧
      (k < 6 → s.alarm.place.length = 64 → t.alarm.standing (12 + k) = true))

/-- ZERO_CROSS and MAINS_MISSING: at a zero-cross mains is there and every channel adds its applied duty to
its accumulator and fires at 1000, the accumulator staying below 1000, so that over a run of cycles at a
steady duty the fired cycles number its share to within one; with mains missing every heater is off and
every accumulator, guarded output and duty 0, the integrators and limit flags standing. -/
def Obligations.ZeroCrossFiresAndMissingMainsStops : Prop :=
  (∀ s : State, heatActs s = true →
    ∃ t, exec .zeroCross s = .next t ∧ t.heat.mainsMissing = false ∧ t.heat.mainsAge = 0 ∧
      t.heat.channels.length = s.heat.channels.length ∧
      ∀ k c, channel s k = some c → ∃ d, channel t k = some d ∧
        (d.firing = true ↔ 1000 ≤ c.acc + c.duty) ∧
        d.acc = (if 1000 ≤ c.acc + c.duty then c.acc + c.duty - 1000 else c.acc + c.duty) ∧
        (c.acc ≤ 999 → c.duty ≤ 1000 → d.acc ≤ 999) ∧ d.duty = c.duty ∧ d.mode = c.mode) ∧
  (∀ (c : Channel) n, c.acc ≤ 999 → c.duty ≤ 1000 →
    let fired := ((List.range n).filter fun i => (repeated Channel.fireCycle (i + 1) c).firing).length
    fired ≤ n ∧ (repeated Channel.fireCycle n c).acc ≤ 999 ∧
      c.acc + n * c.duty = 1000 * fired + (repeated Channel.fireCycle n c).acc) ∧
  (∀ s : State, heatActs s = true →
    ∃ t, exec .mainsMissing s = .next t ∧ t.heat.mainsMissing = true ∧ heatersOff t ∧
      ∀ k c, channel s k = some c → ∃ d, channel t k = some d ∧ d.duty = 0 ∧ d.uc = 0 ∧ d.acc = 0 ∧
        d.iacc = c.iacc ∧ d.limUp = c.limUp ∧ d.limDown = c.limDown ∧ d.mode = c.mode)

/-- Zone events. A ZONE ENTER of a zone with channels replaces the board's note of it by one that holds each
channel's unsettled count, power-limited count and HELD flag; a ZONE LEAVE removes the note and adds ZONE
DISTURBED when a count has moved or HELD was 0, and POWER LIMITED when a power-limited count has moved, each
with the machine zone number (asked for in this order: log entry 41). Without channels or without a note
nothing is asked. A profiling board's event queues PROFILE with the channels' temperatures. -/
def Obligations.ZoneEventsNoteAndJudge : Prop :=
  (∀ t z (s : State), s.cfg.zoneChannels z = [] → zoneEnter t z s = s) ∧
  (∀ t z (s : State), s.cfg.zoneChannels z ≠ [] →
    let u := zoneEnter t z s
    u.heat.channels = s.heat.channels ∧
    ∃ n, u.heat.notes = s.heat.notes.filter (fun m => !(m.tag == t && m.zone == z)) ++ [n] ∧
      n.tag = t ∧ n.zone = z ∧ n.channels.map (·.ch) = s.cfg.zoneChannels z ∧
      ∀ k c, k ∈ s.cfg.zoneChannels z → channel s k = some c →
        (⟨k, c.unsettled, c.limited, c.heldFlag⟩ : NoteChannel) ∈ n.channels) ∧
  (∀ t z (s : State), s.heat.notes.find? (fun m => m.tag == t && m.zone == z) = none →
    (zoneLeave t z s).board = s.board ∧ (zoneLeave t z s).heat = s.heat) ∧
  (∀ t z (s : State) n b, s.heat.notes.find? (fun m => m.tag == t && m.zone == z) = some n →
    findRecord t s.board.queue = some b → b.exceptions.length ≤ 4 →
    let u := zoneLeave t z s
    let m := (s.cfg.zone z).machine
    u.heat.notes = s.heat.notes.filter (fun x => !(x.tag == t && x.zone == z)) ∧
    ∃ x, findRecord t u.board.queue = some x ∧
      ((⟨4, m, s.me⟩ : BoardException) ∈ x.exceptions ↔ (⟨4, m, s.me⟩ : BoardException) ∈ b.exceptions ∨
        ∃ k ∈ n.channels, ∃ c, channel s k.ch = some c ∧
          (c.unsettled ≠ k.unsettled ∨ k.heldFlag = false)) ∧
      ((⟨5, m, s.me⟩ : BoardException) ∈ x.exceptions ↔ (⟨5, m, s.me⟩ : BoardException) ∈ b.exceptions ∨
        ∃ k ∈ n.channels, ∃ c, channel s k.ch = some c ∧ c.limited ≠ k.limited)) ∧
  (∀ t z enter (s : State), profiling t s = true → s.cfg.zoneChannels z ≠ [] →
    s.link.queue.length < 12 →
    let u := if enter = true then zoneEnter t z s else zoneLeave t z s
    ∃ e ∈ u.link.queue, e.inTx = false ∧ e.target = toStation s.cfg.panel ∧
      e.body = .profile ⟨t, enter, z, (s.cfg.zone z).machine, s.pos.counter,
        (s.cfg.zoneChannels z).map (profileChannel s)⟩)

/-! ### Flux -/

/-- Flux events. A FLUX START meters a series held for another board, opens one with the page's values and
inserts its first stroke at the counter; without a page, with extraction not proven or the tank empty it
adds FLUX SKIPPED instead; it is discarded for a tag in the series list. A stroke of the open series is
fired, or skipped with FLUX PARTIAL (and STROKE OVERRUN while a pulse is open), and the next is inserted one
pitch after its due position; a refusal closes the series with FLUX PARTIAL. A FLUX END closes the board's
open series, or skips the board when it comes before its FLUX START. -/
def Obligations.FluxEventsRunASeries : Prop :=
  (∀ t (s : State), t ∈ s.flux.handled → fluxStart t s = s) ∧
  (∀ t (s : State), t ∉ s.flux.handled →
    (boardFlux t (firstUse t s) = none ∨ proven s = false ∨ tankEmpty s = true) →
    let u := fluxStart t s
    u.flux = { s.flux with handled := s.flux.handled ++ [t] } ∧ u.pos = s.pos ∧
    (∀ b, findRecord t s.board.queue = some b → b.exceptions.length ≤ 4 →
      ∃ x, findRecord t u.board.queue = some x ∧ (⟨6, 0, s.me⟩ : BoardException) ∈ x.exceptions)) ∧
  (∀ t (s : State) p, t ∉ s.flux.handled → boardFlux t (firstUse t s) = some p →
    proven s = true → tankEmpty s = false → s.pos.schedule.length < 48 →
    let u := fluxStart t s
    u.flux.series = some ⟨t, none, p.mask, p.pulse, p.nominal, p.tolerance,
      if serviceBoard t s then some p.pitch else none, 0, 0⟩ ∧
    t ∈ u.flux.handled ∧ (⟨t, .fluxStroke, 0, s.pos.counter⟩ : Event) ∈ u.pos.schedule ∧
    (∀ r b, s.flux.series = some r → 0 < r.fired → findRecord r.tag s.board.queue = some b →
      ∃ x, findRecord r.tag u.board.queue = some x ∧ x.volume = some r.flow)) ∧
  (∀ t due (s : State), (∀ r, s.flux.series = some r → r.tag ≠ t ∨ r.drain ≠ none) →
    fluxStroke t due s = s) ∧
  (∀ t due (s : State) r b, s.flux.series = some r → r.tag = t → r.drain = none →
    findRecord t s.board.queue = some b → b.exceptions.length ≤ 4 →
    let u := fluxStroke t due s
    let fires := s.flux.nozzle = none ∧ proven s = true ∧ tankEmpty s = false
    (¬fires → ∃ x, findRecord t u.board.queue = some x ∧
      (⟨7, 0, s.me⟩ : BoardException) ∈ x.exceptions) ∧
    (s.flux.nozzle ≠ none → s.alarm.place.length = 64 → u.alarm.standing 42 = true) ∧
    (s.pos.schedule.length < 48 →
      (fires → u.flux = { s.flux with
        nozzle := some 0, series := some { r with fired := min 65535 (r.fired + 1) } }) ∧
      (¬fires → u.flux = s.flux) ∧
      (⟨t, .fluxStroke, 0, offset due (match r.heldPitch with
        | some p => p
        | none => ((boardFlux t s).getD s.cfg.fluxPage).pitch)⟩ : Event) ∈ u.pos.schedule) ∧
    (48 ≤ s.pos.schedule.length →
      (∀ e ∈ s.pos.schedule, ¬(e.tag = t ∧ e.kind = .fluxStroke ∧ e.qualifier = 0)) →
      u.flux.nozzle = none ∧ (∃ x, u.flux.series = some x ∧ x.tag = t ∧ x.drain = some 0) ∧
      ∃ x, findRecord t u.board.queue = some x ∧
        (⟨3, 6, s.me⟩ : BoardException) ∈ x.exceptions ∧
        (⟨7, 0, s.me⟩ : BoardException) ∈ x.exceptions)) ∧
  (∀ t (s : State),
    let u := fluxEnd t s
    (∀ r, s.flux.series = some r → r.tag = t → r.drain = none →
      u.flux.series = some { r with drain := some 0 } ∧ u.flux.nozzle = none ∧
      u.pos.schedule = s.pos.schedule.filter (fun e =>
        !(e.tag == t && e.kind == .fluxStroke && e.qualifier == 0))) ∧
    ((∀ r, s.flux.series = some r → r.tag ≠ t ∨ r.drain ≠ none) →
      (t ∈ s.flux.handled → u = s) ∧
      (t ∉ s.flux.handled →
        u.flux = { s.flux with handled := s.flux.handled ++ [t] } ∧
        u.pos.schedule = s.pos.schedule.filter (fun e =>
          !(e.tag == t && e.kind == .fluxStart && e.qualifier == 0)) ∧
        ∀ b, findRecord t s.board.queue = some b → b.exceptions.length < 6 →
          ∃ x, findRecord t u.board.queue = some x ∧
            (⟨6, 0, s.me⟩ : BoardException) ∈ x.exceptions)))

/-- FLOW_METER_PULSE: a held series, OPEN or DRAINING, counts one more, saturating at 65,535; without a
series nothing changes. -/
def Obligations.FlowMeterPulseCounts : Prop :=
  ∀ s : State, fluxActs s = true →
    (∀ r, s.flux.series = some r → exec .flowMeterPulse s = .next { s with flux := { s.flux with
      series := some { r with flow := min 65535 (r.flow + 1) } } }) ∧
    (s.flux.series = none → exec .flowMeterPulse s = .next s)

/-- NOZZLE_PULSE_END and DRAIN_TIMER_EXPIRY: all nozzles close and the nozzle timer stands at 0; the
draining series is metered, before what ends every command. TANK_SWITCH_CHANGE and TANK_SWITCH_TAKEN: the
taken level cancels a running hold, the opposite level starts one or leaves the one that runs, and neither
is taken yet; a level that has held becomes the taken one, and a TANK EMPTY taken ACTIVE closes the nozzles.
-/
def Obligations.FluxTimersAndTankSwitches : Prop :=
  ((∀ s : State, fluxActs s = true → ∃ t, exec .nozzlePulseEnd s = .next t ∧ nozzlesOpen t = 0 ∧
     t = { s with flux := { s.flux with nozzle := none } }) ∧
   (∀ (s : State) r n, fluxActs s = true → s.flux.series = some r → r.drain = some n →
     exec .drainTimerExpiry s = .next (finish (meterSeries s)))) ∧
  ((∀ w b (s : State), fluxActs s = true → (tankOf w s).taken = some b →
     ∃ t, exec (.tankSwitchChange w b) s = .next t ∧ tankOf w t = ⟨some b, none⟩) ∧
   (∀ w b (s : State), fluxActs s = true → (tankOf w s).taken = some (!b) →
     ∃ t, exec (.tankSwitchChange w b) s = .next t ∧
       tankOf w t = ⟨some (!b), some ((tankOf w s).hold.getD 0)⟩) ∧
   (∀ w b n (s : State), fluxActs s = true → tankOf w s = ⟨some b, some n⟩ →
     ∃ t, exec (.tankSwitchTaken w) s = .next t ∧ tankOf w t = ⟨some (!b), none⟩ ∧
       (w = .empty → b = false → nozzlesOpen t = 0)))

/-- Metering a series: with strokes fired the board's record takes the delivered volume; without, it takes FLUX
SKIPPED; too little flow for the strokes fired adds FLUX STARVED, and nothing else is added; the series is then
empty. Where flux was expected, a metering without flow raises the no-flow count up to 3, ends the recovery of
FLUX SUPPLY and makes it appear at the third, and one with flow sets the count to 0 and starts the recovery. -/
def Obligations.MeteringWritesTheVolume : Prop :=
  (∀ (s : State) r b, s.flux.series = some r → findRecord r.tag s.board.queue = some b →
    (meterSeries s).flux.series = none ∧
    (0 < r.fired → ∃ b', findRecord r.tag (meterSeries s).board.queue = some b' ∧
      b'.volume = some r.flow ∧
      (r.flow * 100 < r.fired * nozzleCount r.mask * r.nominal * (100 - r.tolerance) →
        b.exceptions.length < 6 →
        (⟨8, 0, s.me⟩ : BoardException) ∈ b'.exceptions)) ∧
    (r.fired = 0 → ∃ b', findRecord r.tag (meterSeries s).board.queue = some b' ∧
      b'.volume = b.volume ∧
      (b.exceptions.length < 6 → (⟨6, 0, s.me⟩ : BoardException) ∈ b'.exceptions)) ∧
    findRecord r.tag (meterSeries s).board.queue = some (
      if r.fired = 0 then b.addException ⟨6, 0, s.me⟩
      else if r.flow * 100 < r.fired * nozzleCount r.mask * r.nominal * (100 - r.tolerance) then
        BoardRecord.addException ⟨8, 0, s.me⟩ { b with volume := some r.flow }
      else { b with volume := some r.flow })) ∧
  (∀ (s : State) r, s.flux.series = some r →
    let e := r.fired * nozzleCount r.mask * r.nominal
    let t := meterSeries s
    (r.fired = 0 ∨ e = 0 → t.flux.noFlow = s.flux.noFlow ∧ t.flux.supplyOk = s.flux.supplyOk) ∧
    (0 < r.fired → 0 < e → r.flow = 0 →
      t.flux.noFlow = min 3 (s.flux.noFlow + 1) ∧ t.flux.supplyOk = false ∧
      (s.flux.noFlow = 2 → s.alarm.place.length = 64 →
        s.cfg.masked 39 = false ∨ s.alarm.flag 39 = false → t.alarm.standing 39 = true)) ∧
    (0 < r.fired → 0 < e → 0 < r.flow → t.flux.noFlow = 0 ∧ t.flux.supplyOk = true) ∧
    (r.fired = 0 ∨ e = 0 ∨ 0 < r.flow ∨ s.flux.noFlow ≠ 2 → t.alarm = s.alarm))

/-! ### Pot -/

/-- Wave events. A WAVE RAISE appends the board with its page's grades to the raised set, and adds WAVE LOST
while the level is LOW-LOW; it is discarded for a raised board, and a board without a page is not raised. A
WAVE LOWER removes the board. The grade in force is the oldest raised board's, the idle grade for a chip
wave it does not enable and for an empty set; in RUNNING the pumps take it, and stand at 0 at LOW-LOW and
outside RUNNING; the quiet timer is 0 while a pump is driven above the idle grade. -/
def Obligations.WaveEventsSetTheGrades : Prop :=
  (∀ t (s : State), (∃ r ∈ s.pot.raised, r.tag = t) → waveRaise t s = s) ∧
  (∀ t (s : State), (∀ r ∈ s.pot.raised, r.tag ≠ t) →
    let u := waveRaise t s
    (boardWave t (firstUse t s) = none → u.pot = s.pot) ∧
    (∀ p, boardWave t (firstUse t s) = some p →
      u.pot.raised = s.pot.raised ++ [⟨t, p.chip, p.main, p.enable⟩] ∧
      u.pot.level = s.pot.level ∧ (pumpsAboveIdle u = true → u.pot.quiet = 0) ∧
      (pumpsAboveIdle u = false → u.pot.quiet = s.pot.quiet) ∧
      ∀ b, s.pot.level = some .lowLow → findRecord t s.board.queue = some b →
        b.exceptions.length ≤ 4 → ∃ x, findRecord t u.board.queue = some x ∧
          (⟨10, 0, s.me⟩ : BoardException) ∈ x.exceptions)) ∧
  (∀ t (s : State),
    let u := waveLower t s
    u.pot.raised = s.pot.raised.filter (fun r => r.tag != t) ∧
    (pumpsAboveIdle u = true → u.pot.quiet = 0) ∧
    (pumpsAboveIdle u = false → u.pot.quiet = s.pot.quiet)) ∧
  (∀ s : State,
    let idle := s.cfg.pot.idleGrade
    (s.pot.raised = [] → gradesInForce s = (idle, idle)) ∧
    (∀ r rs, s.pot.raised = r :: rs →
      gradesInForce s = (if r.enable then r.chip else idle, r.main)) ∧
    (s.loader.station = .running → s.cfg.functions.pot = true → s.pot.level ≠ some .lowLow →
      pumpReferences s = ((gradesInForce s).1 * 1000 / 255, (gradesInForce s).2 * 1000 / 255)) ∧
    (s.loader.station ≠ .running ∨ s.cfg.functions.pot = false ∨ s.pot.level = some .lowLow →
      pumpReferences s = (0, 0)) ∧
    ((gradesInForce s).1 ≤ 255 → (gradesInForce s).2 ≤ 255 →
      (pumpReferences s).1 ≤ 1000 ∧ (pumpReferences s).2 ≤ 1000))

/-- LEVEL_SAMPLE: a reading 0...1000 with the quiet timer at 3 s or more enters the ring, which keeps the
last 16, sets the level age to 0 and, the ring full, forms the average and the level state; any other sample
leaves ring, average, level state and age alone. A level check ends at the tenth such sample since it became
due, or at a later one that fills the ring. Where the level state becomes HIGH or LOW-LOW a feed pulse is cut
and the melt pause starts in full; where it becomes LOW-LOW every raised board is given WAVE LOST, once. -/
def Obligations.LevelSampleForms : Prop :=
  (∀ r (s : State), potActs s = true →
    ∃ t, exec (.levelSample r) s = .next t ∧
      (∀ v : Nat, r = .value v → v ≤ 1000 → 3000 ≤ s.pot.quiet → s.pot.ring.length ≤ 16 →
        let ring := (if s.pot.ring.length = 16 then s.pot.ring.drop 1 else s.pot.ring) ++ [v]
        t.pot.ring = ring ∧ t.pot.age = 0 ∧
        (ring.length = 16 → t.pot.avg = some (ring.sum / 16) ∧
          t.pot.level = some (
            if s.cfg.pot.high ≤ ring.sum / 16 then .high
            else if s.cfg.pot.low ≤ ring.sum / 16 then .normal
            else if s.cfg.pot.lowLow ≤ ring.sum / 16 then .low else .lowLow)) ∧
        (ring.length < 16 → t.pot.avg = s.pot.avg ∧ t.pot.level = s.pot.level) ∧
        t.pot.check = (match s.pot.check with
          | some n => if ring.length = 16 ∧ 10 ≤ n + 1 then none else some (n + 1)
          | none => none) ∧
        ∀ m, s.pot.feed = .pulse m → t.pot.feed =
          if t.pot.level ≠ s.pot.level ∧ (t.pot.level = some .high ∨ t.pot.level = some .lowLow)
          then .pause 0 else .pulse m) ∧
      ((r = .openCircuit ∨ (∃ v : Int, r = .value v ∧ (v < 0 ∨ 1000 < v)) ∨ s.pot.quiet < 3000) →
        t.pot.ring = s.pot.ring ∧ t.pot.avg = s.pot.avg ∧ t.pot.level = s.pot.level ∧
        t.pot.age = s.pot.age ∧ t.pot.check = s.pot.check ∧
        ∀ m, s.pot.feed = .pulse m → t.pot.feed = .pulse m)) ∧
  (∀ r (s : State),
    let u := takeLevel r s
    (u.pot.level = s.pot.level ∨ u.pot.level ≠ some .lowLow → u.board = s.board) ∧
    (u.pot.level ≠ s.pot.level → u.pot.level = some .lowLow →
      u.board = { s.board with queue := s.board.queue.map fun b =>
        if ∃ w ∈ s.pot.raised, w.tag = b.tag then b.addException ⟨10, 0, s.me⟩ else b }))

/-- The judgement of feeding: a pulse begins exactly in RUNNING with the feeder READY, feed wanted, the level
verified, the POT channels confirming or settled, budget left, FEED RUNAWAY in no set and the level neither HIGH
nor LOW-LOW, and it takes one from the budget; with feed wanted and the budget at 0, FEED RUNAWAY appears once
for the window; with budget left and another gate not met, nothing changes. Feed is wanted with the quiet
average below feed-on, or below feed-off while the run flag is set; the run flag is cleared at feed-off, and
nothing else changes. Each level sample judges; the end of a melt pause that falls in its millisecond comes
before it (log entries 2 and 4). -/
def Obligations.FeedPulseBeginsOnlyGated : Prop :=
  (∀ s : State,
    ((judgeFeed s).pot.feed ≠ s.pot.feed →
      (judgeFeed s).pot.feed = .pulse 0 ∧ s.loader.station = .running ∧ s.pot.feed = .ready ∧
      feedWanted s = true ∧ levelVerified s = true ∧ potReady s = true ∧ 0 < s.pot.budget ∧
      s.alarm.at 47 = .idle ∧ s.pot.level ≠ some .high ∧ s.pot.level ≠ some .lowLow ∧
      (judgeFeed s).pot.budget = s.pot.budget - 1 ∧ (judgeFeed s).pot.feedRun = true) ∧
    ((judgeFeed s).pot.feed = s.pot.feed → (judgeFeed s).pot.budget = s.pot.budget) ∧
    (s.loader.station = .running → s.pot.feed = .ready → feedWanted s = true →
      (levelVerified s = true → potReady s = true → 0 < s.pot.budget → s.alarm.at 47 = .idle →
        s.pot.level ≠ some .high → s.pot.level ≠ some .lowLow →
        judgeFeed s = { s with pot := { s.pot with
          feed := .pulse 0, budget := s.pot.budget - 1, feedRun := true } }) ∧
      (s.pot.budget = 0 → s.pot.runaway = false →
        judgeFeed s = appearance 47 { s with pot := { s.pot with runaway := true } } ∧
        (s.alarm.place.length = 64 → (judgeFeed s).alarm.standing 47 = true)) ∧
      (s.pot.budget = 0 → s.pot.runaway = true → judgeFeed s = s) ∧
      (0 < s.pot.budget → levelVerified s = false ∨ potReady s = false ∨ s.alarm.at 47 ≠ .idle ∨
        s.pot.level = some .high ∨ s.pot.level = some .lowLow → judgeFeed s = s))) ∧
  (∀ s : State,
    (feedWanted s = true ↔ ∃ v, s.pot.avg = some v ∧
      (v < s.cfg.pot.feedOn ∨ (v < s.cfg.pot.feedOff ∧ s.pot.feedRun = true))) ∧
    (levelVerified s = true ↔ s.pot.avg ≠ none ∧ s.pot.age < 300000) ∧
    (potReady s = true ↔ (∃ k, k < 6 ∧ (s.cfg.channel k).fn = .pot) ∧
      ∀ k, k < 6 → (s.cfg.channel k).fn = .pot → ∃ d, channel s k = some d ∧
        (d.det.phase = .confirming ∨ d.det.phase = .settled)) ∧
    (s.loader.station ≠ .running ∨ s.pot.feed ≠ .ready → judgeFeed s = s) ∧
    (∀ v, s.loader.station = .running → s.pot.feed = .ready → s.pot.avg = some v →
      s.cfg.pot.feedOff ≤ v → s.cfg.pot.feedOn ≤ v →
      judgeFeed s = { s with pot := { s.pot with feedRun := false } }) ∧
    (s.loader.station = .running → s.pot.feed = .ready → feedWanted s = false →
      (∀ v, s.pot.avg = some v → v < s.cfg.pot.feedOff) → judgeFeed s = s)) ∧
  (∀ r (s : State), potActs s = true →
    exec (.levelSample r) s = .next (finish (judgeFeed (takeLevel r { s with
      pins := { s.pins with level := r }, pot := { s.pot with sampleAge := some 0 } })))) ∧
  (∀ s : State, Instr.meltPauseEnd ∈ (tick s).pending →
    ∃ rest, (tick s).pending = .meltPauseEnd :: rest ∧ Instr.meltPauseEnd ∉ rest)

/-- The pot's timers: a check becomes due at 240 s, the level is unverified at 300 s, a feed pulse ends in
the melt pause, the pause in READY, and the window refills the budget and clears the runaway mark. A timer
that a command names stands at its limit afterwards, and an expiry of the level age overtaken by a quiet
sample of the same millisecond is void (the model's choices, log entry 3). -/
def Obligations.PotTimersEnd : Prop :=
  (∀ s : State, potActs s = true → OwnTimer.levelCheck ∉ s.expiries.lapsed →
    ∃ e, exec .levelCheckDue s = .next { s with
      pot := { s.pot with age := max 240000 s.pot.age, check := some (s.pot.check.getD 0) }
      expiries := e }) ∧
  (∀ s : State, potActs s = true → OwnTimer.levelCheck ∈ s.expiries.lapsed →
    ∃ e, exec .levelCheckDue s = .next { s with expiries := e } ∧
      OwnTimer.levelCheck ∉ e.lapsed) ∧
  (∀ s : State, potActs s = true → OwnTimer.levelStale ∉ s.expiries.lapsed →
    ∃ t, exec .levelUnverified s = .next t ∧ 300000 ≤ t.pot.age ∧ levelVerified t = false) ∧
  (∀ s : State, potActs s = true → OwnTimer.levelStale ∈ s.expiries.lapsed →
    ∃ e, exec .levelUnverified s = .next (finish { s with expiries := e }) ∧
      OwnTimer.levelStale ∉ e.lapsed) ∧
  (∀ (s : State) v, 3000 ≤ s.pot.quiet → v ≤ 1000 → ∀ x, (x = .levelCheck ∨ x = .levelStale) →
    x ∈ s.expiries.queued → x ∈ (takeLevel (.value (v : Nat)) s).expiries.lapsed) ∧
  (∀ (s : State) n, potActs s = true → s.pot.feed = .pulse n →
    ∃ t, exec .feedPulseEnd s = .next t ∧ feederOn t = false ∧
      t = { s with pot := { s.pot with feed := .pause 0 } }) ∧
  (∀ (s : State) n, potActs s = true → s.pot.feed = .pause n →
    exec .meltPauseEnd s = .next { s with pot := { s.pot with feed := .ready } }) ∧
  (∀ s : State, potActs s = true →
    exec .feedWindowExpiry s = .next { s with pot := { s.pot with
      budget := s.cfg.pot.budget, runaway := false, window := 0 } })

/-! ### Extraction and alarms -/

/-- FLOW_SAMPLE: the measured flow is the reading, 0 at a fault; the filter reading is 5000 at a fault;
FILTER LOADED and FILTER BLOCKED compare it with their levels; the detector is fed one-sidedly. A change of the
proven state that this makes acts at once: becoming proven stops the grace timer and ends the grace zero; no
longer proven, an open pulse is cut and, with a preheat channel, the grace timer starts in JOINING and RUNNING.
The lost timer stands at 0 where it does not run. -/
def Obligations.FlowSampleMeasures : Prop :=
  (∀ f p (s : State), hoodActs s = true →
    ∃ t, exec (.flowSample f p) s = .next t ∧
      (∀ v : Nat, f = .value v → v ≤ 2000 → t.fume.measured = v) ∧
      ((f = .openCircuit ∨ ∃ v : Int, f = .value v ∧ (v < 0 ∨ 2000 < v)) → t.fume.measured = 0) ∧
      (∀ v : Nat, p = .value v → v ≤ 5000 → t.fume.filter = v) ∧
      ((p = .openCircuit ∨ ∃ v : Int, p = .value v ∧ (v < 0 ∨ 5000 < v)) → t.fume.filter = 5000) ∧
      (t.fume.loaded = true ↔ s.cfg.fume.filterWarn ≤ t.fume.filter) ∧
      (t.fume.blocked = true ↔ s.cfg.fume.filterBlock ≤ t.fume.filter) ∧
      t.fume.det = s.fume.det.feed s.cfg.fumeDet
        (bandOneSided s.cfg.fumeDet t.fume.measured s.fume.target) ∧
      t.pos.counter = s.pos.counter ∧ t.allot = s.allot) ∧
  (∀ f p (s : State), hoodActs s = true →
    let s1 := { s with pins := { s.pins with flow := f, pressure := p } }
    let u := provenChanged (proven s) { s1 with fume := s.fume.take s.cfg f p }
    exec (.flowSample f p) s = .next (finish (
      if s.loader.station = .running ∧ 0 < u.fume.target ∧ u.fume.measured < u.fume.target / 4 then u
      else { u with fume := { u.fume with lost := 0 } }))) ∧
  (∀ was (s : State),
    (proven s = was → provenChanged was s = s) ∧
    (was = false → proven s = true →
      provenChanged was s = { s with fume := { s.fume with grace := none, graceZero := false } }) ∧
    (was = true → proven s = false →
      let cut := { s with flux := { s.flux with nozzle := none } }
      ((∃ k, k < 6 ∧ (s.cfg.channel k).fn.preheat = true) → s.active = true →
        provenChanged was s = { cut with fume := { s.fume with grace := some 0 } }) ∧
      ((∀ k, k < 6 → (s.cfg.channel k).fn.preheat = false) ∨ s.active = false →
        provenChanged was s = cut))) ∧
  (∀ s : State,
    (s.cfg.functions.hood = true → (proven s = true ↔ s.fume.det.phase = .settled)) ∧
    (s.cfg.functions.hood = false → proven s = s.fume.adopted))

/-- The extraction's timers and the fan's feedback: the target takes the required flow, EXTRACTION LOST holds,
the grace zero begins, the feedback timer is cleared by feedback, and FAN NOT RUNNING stands. The required flow
is the base flow with the addition for each record with a volume, the hood maximum at most. One at or below the
target becomes the target and cancels the timer, as a rise does with a rise delay of 0; one above it that is no
rise lets the timer run on. A rise restarts the rise delay timer, and an expiry of it that waits is void. The
lost timer stands at its limit after its command (the model's choices, log entry 3). The fan's flow sum takes
each station's flow by what is known of it, and the reference the curve gives for it, between two points in
proportion, truncated toward zero. A station without HOOD adopts the fresh proven field of its covering station
while not isolated, forms it at each start and end of LINK ISOLATED, and where that changes the proven state,
the effects of such a change follow at once (as FlowSampleMeasures gives them). -/
def Obligations.ExtractionTimersEnd : Prop :=
  (∀ (s : State) n, hoodActs s = true → s.fume.rise = some n →
    OwnTimer.riseDelay ∉ s.expiries.lapsed →
    ∃ e, exec .riseDelayExpiry s = .next { s with
      fume := { s.fume with target := s.fume.required, rise := none }, expiries := e }) ∧
  (∀ s : State, hoodActs s = true → OwnTimer.riseDelay ∈ s.expiries.lapsed →
    ∃ e, exec .riseDelayExpiry s = .next { s with expiries := e } ∧ OwnTimer.riseDelay ∉ e.lapsed) ∧
  (∀ s : State, s.cfg.functions.hood = true → s.fume.required < requiredNow s →
    s.fume.target < requiredNow s → 0 < s.cfg.fume.riseDelay →
    (formRequired s).fume = { s.fume with required := requiredNow s, rise := some 0 } ∧
    (OwnTimer.riseDelay ∈ s.expiries.queued →
      OwnTimer.riseDelay ∈ (formRequired s).expiries.lapsed)) ∧
  (∀ s : State,
    let r := requiredNow s
    r = min s.cfg.fume.hoodMax (s.cfg.fume.baseFlow
      + s.cfg.fume.vapourAdd * s.board.queue.countP (fun b => b.volume.isSome)) ∧
    (s.cfg.functions.hood = false → formRequired s = s) ∧
    (s.cfg.functions.hood = true →
      (r ≤ s.fume.target ∨ (s.fume.required < r ∧ s.cfg.fume.riseDelay = 0) →
        formRequired s = { s with fume := { s.fume with required := r, target := r, rise := none } }) ∧
      (s.fume.target < r → r ≤ s.fume.required →
        (formRequired s).fume = { s.fume with required := r } ∧
        (s.fume.rise ≠ some 0 → (formRequired s).expiries = s.expiries)))) ∧
  (∀ s : State, s.loader.station = .running → s.cfg.functions.hood = true →
    s.fume.measured < s.fume.target / 4 →
    ∃ t, exec .extractionLost s = .next t ∧ 1000 ≤ t.fume.lost ∧ t.loader = s.loader) ∧
  (∀ (s : State) n, s.active = true → s.fume.grace = some n →
    ∃ t, exec .graceTimerExpiry s = .next t ∧
      t = { s with fume := { s.fume with grace := none, graceZero := true } } ∧
      (∀ fn : ChFunction, fn.preheat = true → extractionCeiling fn t.fume.graceZero = 0) ∧
      extractionCeiling .pot t.fume.graceZero = 1000) ∧
  (∀ b (s : State), fanActs s = true →
    ∃ t, exec (.fanRunInputChange b) s = .next t ∧ t.pins.fanRun = b ∧
      t.fume.feedback = if b then 0 else s.fume.feedback) ∧
  (∀ s : State, fanActs s = true → 0 < s.fume.fanRef → s.pins.fanRun = false →
    s.fume.feedback = 5000 → s.alarm.place.length = 64 →
    ∃ t, exec .fanNotRunning s = .next t ∧ t.alarm.standing 52 = true) ∧
  (∀ s : State,
    let flow := fun n => if n = s.me then (if s.cfg.functions.hood then s.fume.required else 0)
      else if n = s.cfg.panel then 0
      else match peer s n with
        | some p => if p.age < 1000 ∧ s.link.isolation ≠ 8 then p.status.requiredFlow
          else p.status.hoodMax
        | none => if s.cfg.member n then ((s.cfg.assumed[n]?).map (·.hood)).getD 0 else 0
    let f := ((List.range 16).map flow).sum
    let r := curveReference f s.cfg.fume.curve
    (s.cfg.functions.fan = true → formFan s = { s with fume := { s.fume with
      fanSum := f, fanRef := r, feedback := if r = 0 then 0 else s.fume.feedback } }) ∧
    (s.cfg.functions.fan = false → formFan s = s)) ∧
  (∀ f p rest, f ≤ p.flow → curveReference f (p :: rest) = p.reference) ∧
  (∀ f pre (p : CurvePoint), (pre ++ [p]).Pairwise (fun x y => x.flow < y.flow) → p.flow ≤ f →
    curveReference f (pre ++ [p]) = p.reference) ∧
  (∀ f pre (p q : CurvePoint) post, (pre ++ p :: q :: post).Pairwise (fun x y => x.flow < y.flow) →
    p.flow ≤ f → f < q.flow →
    (curveReference f (pre ++ p :: q :: post) : Int) = p.reference
      + (((q.reference : Int) - p.reference) * ((f : Int) - p.flow)).tdiv ((q.flow : Int) - p.flow)) ∧
  (∀ s : State, (s.cfg.functions.hood = true → formAdopted s = s) ∧
    (s.cfg.functions.hood = false → ((formAdopted s).fume.adopted = true ↔
      s.link.isolation ≠ 8 ∧ ∃ p, peer s s.cfg.cover = some p ∧ p.age < 1000 ∧
        p.status.proven = true) ∧
      formAdopted s = provenChanged (proven s)
        { s with fume := { s.fume with adopted := (formAdopted s).fume.adopted } })) ∧
  (∀ n (s : State),
    let u := { s with link := { s.link with isolation := n } }
    setIsolation n s = if (n = 8 ↔ s.link.isolation = 8) then u else formAdopted u)

/-- The ACK button: a press takes the first PENDING entry of the list, queues ALARM ACK and applies it, or
sends nothing and applies nothing without one; it is taken once until a release. The press is the command
itself, whether or not the model's debounce has counted 20 ms (the model's choice, log entry 17). -/
def Obligations.AckButton : Prop :=
  (∀ (s : State) e, s.active = true → s.alarm.ack ≠ .spent →
    (s.alarm.list.find? fun x => !x.inService) = some e →
    exec .ackButtonPress s = .next (finish (applyAck e.origin (some e.code)
      (enqueue .alarms allTarget (.alarmAck e.origin (some e.code))
        { s with alarm := { s.alarm with ack := .spent } })))) ∧
  (∀ s : State, s.active = true → s.alarm.ack ≠ .spent →
    (s.alarm.list.find? fun x => !x.inService) = none →
    exec .ackButtonPress s =
      .next (finish { s with alarm := { s.alarm with ack := .spent } })) ∧
  (∀ s : State, s.active = true → s.alarm.ack = .spent → exec .ackButtonPress s = .next s) ∧
  (∀ (s : State) n, s.active = true → s.alarm.ack = .released n →
    ∃ t, exec (.ackButtonInputChange true) s = .next t ∧ t.pins.ack = true ∧
      t.alarm.ack = (if 20 ≤ n then .held 0 else .spent)) ∧
  (∀ s : State, s.active = true → (∀ n, s.alarm.ack ≠ .released n) →
    ∃ t, exec (.ackButtonInputChange false) s = .next t ∧ t.pins.ack = false ∧
      t.alarm.ack = .released 0)

/-- Announcement and reports. A code is masked by its bit of the mask, one of level 7 never. A judgement picks a
requested, unmasked code of the highest requested level, the first from that level's pointer upward, when its
level is above every pending one. An announced code of level 1 to 7 is pending, listed, raised on the line and
followed by a STATUS with the new pending count; one of level 0 is raised in service and cleared at once. A LIVE
report moves its code by where it stands, and a changed gone mark updates the own list entry only where it is
listed, and there the mark alone (the model's choice for an entry already IN-SERVICE, log entry 51). A recovery
report sets its flag, drops a masked request and ends service; its end clears the flag alone. A lost detector
leaves SETTLE LOST requested, masked or not (log entry 40). -/
def Obligations.AnnouncementPicksAndMoves : Prop :=
  (∀ (img : Image) c, levelOf c = (alarmLevel c).getD 0 ∧
    (img.masked c = true ↔ img.mask.getLsbD c = true ∧ alarmLevel c ≠ some 7)) ∧
  (∀ img (a : AlarmUnit) c, pickRequest img a = some c →
    c < 64 ∧ a.at c = .request ∧ img.masked c = false ∧
    (∀ d, d < 64 → a.at d = .request → img.masked d = false → levelOf d ≤ levelOf c ∧
      (levelOf d = levelOf c → a.rot.getD (levelOf c) 0 < 64 →
        (c + 64 - a.rot.getD (levelOf c) 0) % 64 ≤ (d + 64 - a.rot.getD (levelOf c) 0) % 64)) ∧
    (∀ d g, d < 64 → a.at d = .pending g → levelOf d < levelOf c)) ∧
  (∀ img (a : AlarmUnit) d, pickRequest img a = none → d < 64 → a.at d = .request →
    img.masked d = false → ∃ x g, x < 64 ∧ a.at x = .pending g ∧ levelOf d ≤ levelOf x) ∧
  (∀ c (s : State), c < 64 → s.alarm.place.length = 64 →
    let t := announcePick c s
    let rot := s.alarm.rot.set (levelOf c) ((c + 1) % 64)
    (levelOf c ≠ 0 → t.alarm.at c = .pending false ∧ (∀ d, d ≠ c → t.alarm.at d = s.alarm.at d) ∧
      t.alarm.rot = rot ∧ t.link.statusAge = some 0 ∧
      t.alarm.list = (s.alarm.enter ⟨s.me, c, levelOf c, false, false⟩).list ∧
      (s.link.queue.length ≤ 10 →
        (∃ e ∈ t.link.queue, e.inTx = false ∧ e.target = allTarget ∧
          e.body = .alarmRaise c (levelOf c) false false) ∧
        ∃ e f, e ∈ t.link.queue ∧ e.inTx = false ∧ e.body = .status f ∧
          f.pendingCount = t.alarm.pendingCodes.length)) ∧
    (levelOf c = 0 → t.alarm.at c = .idle ∧ t.alarm.rot = rot ∧
      (∀ x ∈ t.alarm.list, ¬(x.origin = s.me ∧ x.code = c)) ∧
      (s.link.queue.length ≤ 10 →
        (∃ e ∈ t.link.queue, e.inTx = false ∧ e.body = .alarmRaise c 0 true false) ∧
        ∃ e ∈ t.link.queue, e.inTx = false ∧ e.body = .alarmClear c false))) ∧
  (∀ c v (s : State), s.alarm.flag c = v → reportLive c v s = s ∧ reportRecovery c v s = s) ∧
  (∀ c (s : State), c < 64 → alarmLive c = true → s.alarm.place.length = 64 →
    s.alarm.flags.length = 64 →
    let marked := fun g => s.alarm.list.map fun x =>
      if x.origin == s.me && x.code == c then { x with gone := g } else x
    let raised := fun g (t : State) => s.link.queue.length < 12 →
      ∃ e ∈ t.link.queue, e.inTx = false ∧ e.body = .alarmRaise c (levelOf c) false g
    (s.alarm.flag c = false →
      let t := reportLive c true s
      t.alarm.flag c = true ∧ (s.alarm.at c = .idle → t.alarm.at c = .request) ∧
      (s.alarm.at c = .request ∨ s.alarm.at c = .pending false ∨ s.alarm.at c = .inService →
        t.alarm.at c = s.alarm.at c) ∧
      (s.alarm.at c = .pending true → t.alarm.at c = .pending false ∧
        t.alarm.list = marked false ∧ t.alarm.incomplete = s.alarm.incomplete ∧ raised false t)) ∧
    (s.alarm.flag c = true →
      let t := reportLive c false s
      t.alarm.flag c = false ∧
      (s.alarm.at c = .request ∨ s.alarm.at c = .idle → t.alarm.at c = .idle ∧ t.link = s.link) ∧
      (s.alarm.at c = .pending true → t.alarm.at c = .pending true) ∧
      (s.alarm.at c = .pending false → t.alarm.at c = .pending true ∧
        t.alarm.list = marked true ∧ t.alarm.incomplete = s.alarm.incomplete ∧ raised true t) ∧
      (s.alarm.at c = .inService → t.alarm.at c = .idle ∧
        (∀ x ∈ t.alarm.list, ¬(x.origin = s.me ∧ x.code = c)) ∧
        (s.link.queue.length < 12 → ∃ e ∈ t.link.queue, e.inTx = false ∧
          e.body = .alarmClear c false)))) ∧
  (∀ c (s : State), c < 64 → alarmRecovery c = .condition → s.alarm.place.length = 64 →
    s.alarm.flags.length = 64 →
    (s.alarm.flag c = true →
      reportRecovery c false s = { s with alarm := s.alarm.setFlag c false }) ∧
    (s.alarm.flag c = false →
      let t := reportRecovery c true s
      t.alarm.flag c = true ∧
      (s.alarm.at c = .request →
        t.alarm.at c = if s.cfg.masked c = true then .idle else .request) ∧
      (s.alarm.at c = .idle → t.alarm.at c = .idle) ∧
      (∀ g, s.alarm.at c = .pending g → t.alarm.at c = .pending g) ∧
      (s.alarm.at c = .inService → t.alarm.at c = .idle ∧
        (s.link.queue.length < 12 → ∃ e ∈ t.link.queue, e.inTx = false ∧
          e.body = .alarmClear c false)))) ∧
  (∀ k (s : State), k < 6 → s.alarm.place.length = 64 → s.alarm.flags.length = 64 →
    (settleLost k s).alarm.flag (24 + k) = false ∧
    (settleLost k s).alarm.at (24 + k) =
      if s.alarm.at (24 + k) = .idle then .request else s.alarm.at (24 + k))

/-- What ends a command in JOINING and RUNNING, three passes over (log entry 8), and acts on nothing in the
other states. A pass gives the tracker the NONE of each offer dropped (log entry 10), reports each condition and
recovery condition in the order of the codes (log entry 9), and announces as long as a judgement picks a code.
Afterwards every LIVE code's flag is its condition, every recovery flag but OVERTEMP's is its recovery
condition, and no judgement picks a code; where that holds already and no offer was dropped, nothing changes.
The codes with their levels, triggers and recoveries; when each LIVE condition holds, and each recovery
condition (MAINS MISSING with HEAT or POT alone: log entry 36; RECIPE UNAVAILABLE while a reference is such: log
entry 54). -/
def Obligations.FinishReportsAndAnnounces : Prop :=
  (∀ s : State, s.active = false → finish s = s) ∧
  (∀ s : State, s.active = true → s.alarm.flags.length = 64 →
    let t := finish s
    (∀ c, alarmLive c = true → t.alarm.flag c = liveHolds t c) ∧
    (∀ c, alarmLive c = false → alarmRecovery c = .condition → (c < 18 ∨ 23 < c) →
      t.alarm.flag c = recoveryHolds t c) ∧
    pickRequest t.cfg t.alarm = none ∧ t.alarm.flags.length = 64) ∧
  (∀ s : State, s.link.offersDropped = [] →
    (∀ c, alarmLive c = true → s.alarm.flag c = liveHolds s c) →
    (∀ c, alarmLive c = false → alarmRecovery c = .condition → (c < 18 ∨ 23 < c) →
      s.alarm.flag c = recoveryHolds s c) →
    pickRequest s.cfg s.alarm = none → finish s = s) ∧
  (∀ s : State,
    let report := fun (u : State) c =>
      if alarmLive c then reportLive c (liveHolds u c) u
      else if alarmRecovery c = .condition ∧ (c < 18 ∨ 23 < c) then reportRecovery c (recoveryHolds u c) u
      else u
    let tell := fun (u : State) =>
      u.link.offersDropped.foldl (fun v t => answerOffer t .none v)
        { u with link := { u.link with offersDropped := [] } }
    let pass := fun u => announceAll 64 ((List.range 58).foldl report (tell u))
    s.active = true → finish s = pass (pass (pass s))) ∧
  (∀ n (s : State), (pickRequest s.cfg s.alarm = none → announceAll n s = s) ∧
    ∀ c, pickRequest s.cfg s.alarm = some c → announceAll (n + 1) s = announceAll n (announcePick c s)) ∧
  ((∀ c, alarmLive c = true ↔ (6 ≤ c ∧ c ≤ 11) ∨
      c ∈ [30, 34, 35, 37, 40, 41, 43, 44, 45, 46, 48, 49, 50, 51, 53, 54, 55]) ∧
    (∀ c, alarmRecovery c = .resetOnly ↔ 12 ≤ c ∧ c ≤ 17) ∧
    (∀ c, alarmRecovery c = .condition ↔ c ≤ 5 ∨ (18 ≤ c ∧ c ≤ 29) ∨ c = 36 ∨ c = 39 ∨ c = 52) ∧
    (∀ c, c < 30 → alarmLevel c = some (if c ≤ 5 then 4 else if c ≤ 11 then 6 else if c ≤ 23 then 7 else 3)) ∧
    (List.range 28).map (fun i => alarmLevel (30 + i)) =
      [6, 5, 5, 5, 6, 6, 4, 4, 3, 5, 2, 5, 2, 3, 7, 4, 2, 6, 5, 7, 2, 6, 7, 6, 3, 1, 0, 6].map some ∧
    ∀ c, 58 ≤ c → alarmLevel c = none) ∧
  (∀ s : State,
    let running := s.loader.station = .running
    let blocked := fun a => ∃ t r, s.board.handoff.bound = some t ∧ findRecord t s.board.queue = some r ∧
      r.state = .blocked ∧ s.board.handoff.last = some a
    (∀ k, k < 6 → (liveHolds s (6 + k) = true ↔ ∃ d, channel s k = some d ∧ d.mode = .blind)) ∧
    (liveHolds s 30 = true ↔ running ∧ (s.cfg.functions.heat = true ∨ s.cfg.functions.pot = true) ∧
      s.heat.mainsMissing = true) ∧
    (liveHolds s 34 = true ↔ blocked .none) ∧ (liveHolds s 35 = true ↔ blocked .defer) ∧
    (liveHolds s 37 = true ↔ ∃ r, ((∃ e ∈ s.board.expected, e.ref = r) ∨ ∃ b ∈ s.board.queue, b.ref = r) ∧
      ((∃ p, r = .unentered p) ∨
        ∃ i e, r = .entry i ∧ s.recipe.entry i = some e ∧ e.fetch = .failed)) ∧
    (liveHolds s 40 = true ↔ s.flux.low.taken = some true) ∧
    (liveHolds s 41 = true ↔ s.flux.empty.taken = some true) ∧
    (liveHolds s 43 = true ↔ s.pot.level = some .low) ∧
    (liveHolds s 44 = true ↔ s.pot.level = some .lowLow) ∧
    (liveHolds s 45 = true ↔ s.pot.level = some .high) ∧
    (liveHolds s 46 = true ↔ s.cfg.functions.pot = true ∧ 300000 ≤ s.pot.age) ∧
    (liveHolds s 48 = true ↔ running ∧ s.cfg.functions.hood = true ∧ s.fume.det.phase ≠ .settled) ∧
    (liveHolds s 49 = true ↔ running ∧ s.cfg.functions.hood = true ∧ 1000 ≤ s.fume.lost) ∧
    (liveHolds s 50 = true ↔ s.fume.loaded = true) ∧ (liveHolds s 51 = true ↔ s.fume.blocked = true) ∧
    (liveHolds s 53 = true ↔ s.link.isolation = 8) ∧
    (liveHolds s 54 = true ↔ ∃ n, n < 16 ∧ s.cfg.member n = true ∧ n ≠ s.me ∧
      ∀ p, peer s n = some p → 1000 ≤ p.age) ∧
    (liveHolds s 55 = true ↔ s.allot.short = 10) ∧
    (∀ k, k < 6 → (recoveryHolds s k = true ↔
      ∃ d, channel s k = some d ∧ d.secondary = true ∧ d.lastGood = true)) ∧
    (∀ k, k < 6 → (recoveryHolds s (24 + k) = true ↔
      ∃ d, channel s k = some d ∧ d.det.phase = .settled)) ∧
    (recoveryHolds s 36 = true ↔ s.pos.tally = 0) ∧
    (recoveryHolds s 39 = true ↔ s.flux.supplyOk = true) ∧
    (recoveryHolds s 52 = true ↔ s.cfg.functions.fan = true ∧ s.pins.fanRun = true))

/-- The run permit: withdrawn outside RUNNING, while a record is BLOCKED, while a level-7 code is in the
request or pending set, and while one that is not RESET ONLY is in service; granted otherwise. In JOINING
and RUNNING the horn sounds for a PENDING entry at or above the horn level, red is lit for an entry of level
6 or 7, amber for one of level 3 to 5 or an incomplete list, green in RUNNING for an empty list; in the
other states red alone is lit. -/
def Obligations.RunPermitHornAndBeacon : Prop :=
  (∀ s : State, runPermit s = true ↔
    s.loader.station = .running ∧ (∀ r ∈ s.board.queue, r.state ≠ .blocked) ∧
    (∀ c, c < 64 → levelOf c = 7 →
      s.alarm.at c = .idle ∨ (s.alarm.at c = .inService ∧ 12 ≤ c ∧ c ≤ 17))) ∧
  (∀ s : State, s.active = true →
    (hornOn s = true ↔ ∃ e ∈ s.alarm.list, e.inService = false ∧ s.cfg.hornLevel ≤ e.level) ∧
    (redOn s = true ↔ ∃ e ∈ s.alarm.list, 6 ≤ e.level) ∧
    (amberOn s = true ↔ s.alarm.incomplete = true ∨ ∃ e ∈ s.alarm.list, 3 ≤ e.level ∧ e.level ≤ 5) ∧
    (greenOn s = true ↔ s.loader.station = .running ∧ s.alarm.list = [])) ∧
  (∀ s : State, s.active = false →
    hornOn s = false ∧ redOn s = true ∧ amberOn s = false ∧ greenOn s = false)

/-! ### Invariants and encodings -/

/-- No step takes the transmit queue above 12 frames, the event schedule above 48 entries or the line alarm
list above 32 entries, and none leaves the station out of reset with its supply below 2.9 V. -/
def Obligations.StepKeepsTheBounds : Prop :=
  (∀ s t : State, queueBound s → step s = .next t → queueBound t) ∧
  (∀ s t : State, scheduleBound s → step s = .next t → scheduleBound t) ∧
  (∀ s t : State, listBound s → step s = .next t → listBound t) ∧
  (∀ s t : State, supplyHeld s → step s = .next t → supplyHeld t)

/-- Every step keeps the pending alarms at pairwise different levels. -/
def Obligations.StepKeepsPendingLevelsDistinct : Prop :=
  ∀ s t : State, pendingDistinct s → step s = .next t → pendingDistinct t

/-- Right after reset the invariants hold (that the supply is then at 3.3 V is the model's choice, log entry
7). -/
def Obligations.ResetMeetsTheInvariants : Prop :=
  queueBound State.reset ∧ scheduleBound State.reset ∧ listBound State.reset ∧
    supplyHeld State.reset ∧ pendingDistinct State.reset

/-- Every frame the station sends passes the receiver's frame check as a frame of its kind. -/
def Obligations.SentFramesPassTheCheck : Prop :=
  ∀ (e : TxEntry) me,
    (∀ p, e.body = .profile p → 1 ≤ p.channels.length ∧ p.channels.length ≤ 6) →
    frameCheck (e.frame me) = some e.body.kind

/-- What a receiver reads of a BOARD OFFER or STATUS body is what its sender put into it: the record moves
whole but for its lead, trail, state and reference, which the receiver sets. -/
def Obligations.BodiesRoundTrip : Prop :=
  (∀ (r : BoardRecord) st, r.tag ≤ 65535 → (∀ p, r.product = some p → p ≤ 1048575) →
    r.length < 16777216 → (∀ v, r.volume = some v → v ≤ 65535) → r.exceptions.length ≤ 6 →
    (∀ e ∈ r.exceptions, e.code ≤ 255 ∧ e.qualifier ≤ 255 ∧ e.station ≤ 255) →
    offerRecord (offerBytes r st) =
      { r with lead := none, trail := none, state := .inbound, ref := .default }) ∧
  (∀ f : StatusFields, (f.station = .configFault ∨ f.station = .joining ∨ f.station = .running) →
    (∀ p, f.readyFor = some p → p ≤ 1048575) → f.queueCount ≤ 255 → f.expectedCount ≤ 255 →
    (∀ l, f.highest = some l → 1 ≤ l ∧ l ≤ 7) → f.pendingCount ≤ 7 → f.requiredFlow ≤ 2000 →
    f.hoodMax ≤ 2000 → f.measuredFlow ≤ 2000 → f.discard ≤ 255 → f.badCount ≤ 255 →
    statusBody (statusBytes f) = f)
end

