-- ==== Sys2Proof/Laws/State.lean ====
section
/-! SUPPORT. What the named updates leave alone: one lemma per field per update, each true by rfl. -/
namespace Sys2Proof.Machine

variable (s : State)

@[simp] theorem modChannel_loader (k : Nat) (f : Channel → Channel) : (modChannel k f s).loader = s.loader := rfl
@[simp] theorem modChannel_pins (k : Nat) (f : Channel → Channel) : (modChannel k f s).pins = s.pins := rfl
@[simp] theorem modChannel_link (k : Nat) (f : Channel → Channel) : (modChannel k f s).link = s.link := rfl
@[simp] theorem modChannel_pos (k : Nat) (f : Channel → Channel) : (modChannel k f s).pos = s.pos := rfl
@[simp] theorem modChannel_board (k : Nat) (f : Channel → Channel) : (modChannel k f s).board = s.board := rfl
@[simp] theorem modChannel_recipe (k : Nat) (f : Channel → Channel) : (modChannel k f s).recipe = s.recipe := rfl
@[simp] theorem modChannel_allot (k : Nat) (f : Channel → Channel) : (modChannel k f s).allot = s.allot := rfl
@[simp] theorem modChannel_flux (k : Nat) (f : Channel → Channel) : (modChannel k f s).flux = s.flux := rfl
@[simp] theorem modChannel_pot (k : Nat) (f : Channel → Channel) : (modChannel k f s).pot = s.pot := rfl
@[simp] theorem modChannel_fume (k : Nat) (f : Channel → Channel) : (modChannel k f s).fume = s.fume := rfl
@[simp] theorem modChannel_alarm (k : Nat) (f : Channel → Channel) : (modChannel k f s).alarm = s.alarm := rfl
@[simp] theorem modChannel_freeCount (k : Nat) (f : Channel → Channel) : (modChannel k f s).freeCount = s.freeCount := rfl
@[simp] theorem modChannel_expiries (k : Nat) (f : Channel → Channel) : (modChannel k f s).expiries = s.expiries := rfl
@[simp] theorem modChannel_pending (k : Nat) (f : Channel → Channel) : (modChannel k f s).pending = s.pending := rfl
@[simp] theorem modChannel_cfg (k : Nat) (f : Channel → Channel) : (modChannel k f s).cfg = s.cfg := rfl
@[simp] theorem modChannel_me (k : Nat) (f : Channel → Channel) : (modChannel k f s).me = s.me := rfl

@[simp] theorem mapRecord_loader (t : Tag) (f : BoardRecord → BoardRecord) : (mapRecord t f s).loader = s.loader := rfl
@[simp] theorem mapRecord_pins (t : Tag) (f : BoardRecord → BoardRecord) : (mapRecord t f s).pins = s.pins := rfl
@[simp] theorem mapRecord_link (t : Tag) (f : BoardRecord → BoardRecord) : (mapRecord t f s).link = s.link := rfl
@[simp] theorem mapRecord_pos (t : Tag) (f : BoardRecord → BoardRecord) : (mapRecord t f s).pos = s.pos := rfl
@[simp] theorem mapRecord_recipe (t : Tag) (f : BoardRecord → BoardRecord) : (mapRecord t f s).recipe = s.recipe := rfl
@[simp] theorem mapRecord_heat (t : Tag) (f : BoardRecord → BoardRecord) : (mapRecord t f s).heat = s.heat := rfl
@[simp] theorem mapRecord_allot (t : Tag) (f : BoardRecord → BoardRecord) : (mapRecord t f s).allot = s.allot := rfl
@[simp] theorem mapRecord_flux (t : Tag) (f : BoardRecord → BoardRecord) : (mapRecord t f s).flux = s.flux := rfl
@[simp] theorem mapRecord_pot (t : Tag) (f : BoardRecord → BoardRecord) : (mapRecord t f s).pot = s.pot := rfl
@[simp] theorem mapRecord_fume (t : Tag) (f : BoardRecord → BoardRecord) : (mapRecord t f s).fume = s.fume := rfl
@[simp] theorem mapRecord_alarm (t : Tag) (f : BoardRecord → BoardRecord) : (mapRecord t f s).alarm = s.alarm := rfl
@[simp] theorem mapRecord_freeCount (t : Tag) (f : BoardRecord → BoardRecord) : (mapRecord t f s).freeCount = s.freeCount := rfl
@[simp] theorem mapRecord_expiries (t : Tag) (f : BoardRecord → BoardRecord) : (mapRecord t f s).expiries = s.expiries := rfl
@[simp] theorem mapRecord_pending (t : Tag) (f : BoardRecord → BoardRecord) : (mapRecord t f s).pending = s.pending := rfl
@[simp] theorem mapRecord_cfg (t : Tag) (f : BoardRecord → BoardRecord) : (mapRecord t f s).cfg = s.cfg := rfl
@[simp] theorem mapRecord_me (t : Tag) (f : BoardRecord → BoardRecord) : (mapRecord t f s).me = s.me := rfl

@[simp] theorem addException_loader (t : Tag) (c q : Nat) : (addException t c q s).loader = s.loader := rfl
@[simp] theorem addException_pins (t : Tag) (c q : Nat) : (addException t c q s).pins = s.pins := rfl
@[simp] theorem addException_link (t : Tag) (c q : Nat) : (addException t c q s).link = s.link := rfl
@[simp] theorem addException_pos (t : Tag) (c q : Nat) : (addException t c q s).pos = s.pos := rfl
@[simp] theorem addException_recipe (t : Tag) (c q : Nat) : (addException t c q s).recipe = s.recipe := rfl
@[simp] theorem addException_heat (t : Tag) (c q : Nat) : (addException t c q s).heat = s.heat := rfl
@[simp] theorem addException_allot (t : Tag) (c q : Nat) : (addException t c q s).allot = s.allot := rfl
@[simp] theorem addException_flux (t : Tag) (c q : Nat) : (addException t c q s).flux = s.flux := rfl
@[simp] theorem addException_pot (t : Tag) (c q : Nat) : (addException t c q s).pot = s.pot := rfl
@[simp] theorem addException_fume (t : Tag) (c q : Nat) : (addException t c q s).fume = s.fume := rfl
@[simp] theorem addException_alarm (t : Tag) (c q : Nat) : (addException t c q s).alarm = s.alarm := rfl
@[simp] theorem addException_freeCount (t : Tag) (c q : Nat) : (addException t c q s).freeCount = s.freeCount := rfl
@[simp] theorem addException_expiries (t : Tag) (c q : Nat) : (addException t c q s).expiries = s.expiries := rfl
@[simp] theorem addException_pending (t : Tag) (c q : Nat) : (addException t c q s).pending = s.pending := rfl
@[simp] theorem addException_cfg (t : Tag) (c q : Nat) : (addException t c q s).cfg = s.cfg := rfl
@[simp] theorem addException_me (t : Tag) (c q : Nat) : (addException t c q s).me = s.me := rfl

@[simp] theorem appearance_loader (c : Nat) : (appearance c s).loader = s.loader := rfl
@[simp] theorem appearance_pins (c : Nat) : (appearance c s).pins = s.pins := rfl
@[simp] theorem appearance_link (c : Nat) : (appearance c s).link = s.link := rfl
@[simp] theorem appearance_pos (c : Nat) : (appearance c s).pos = s.pos := rfl
@[simp] theorem appearance_board (c : Nat) : (appearance c s).board = s.board := rfl
@[simp] theorem appearance_recipe (c : Nat) : (appearance c s).recipe = s.recipe := rfl
@[simp] theorem appearance_heat (c : Nat) : (appearance c s).heat = s.heat := rfl
@[simp] theorem appearance_allot (c : Nat) : (appearance c s).allot = s.allot := rfl
@[simp] theorem appearance_flux (c : Nat) : (appearance c s).flux = s.flux := rfl
@[simp] theorem appearance_pot (c : Nat) : (appearance c s).pot = s.pot := rfl
@[simp] theorem appearance_fume (c : Nat) : (appearance c s).fume = s.fume := rfl
@[simp] theorem appearance_freeCount (c : Nat) : (appearance c s).freeCount = s.freeCount := rfl
@[simp] theorem appearance_expiries (c : Nat) : (appearance c s).expiries = s.expiries := rfl
@[simp] theorem appearance_pending (c : Nat) : (appearance c s).pending = s.pending := rfl
@[simp] theorem appearance_cfg (c : Nat) : (appearance c s).cfg = s.cfg := rfl
@[simp] theorem appearance_me (c : Nat) : (appearance c s).me = s.me := rfl

@[simp] theorem cutPulse_loader : (cutPulse s).loader = s.loader := rfl
@[simp] theorem cutPulse_pins : (cutPulse s).pins = s.pins := rfl
@[simp] theorem cutPulse_link : (cutPulse s).link = s.link := rfl
@[simp] theorem cutPulse_pos : (cutPulse s).pos = s.pos := rfl
@[simp] theorem cutPulse_board : (cutPulse s).board = s.board := rfl
@[simp] theorem cutPulse_recipe : (cutPulse s).recipe = s.recipe := rfl
@[simp] theorem cutPulse_heat : (cutPulse s).heat = s.heat := rfl
@[simp] theorem cutPulse_allot : (cutPulse s).allot = s.allot := rfl
@[simp] theorem cutPulse_pot : (cutPulse s).pot = s.pot := rfl
@[simp] theorem cutPulse_fume : (cutPulse s).fume = s.fume := rfl
@[simp] theorem cutPulse_alarm : (cutPulse s).alarm = s.alarm := rfl
@[simp] theorem cutPulse_freeCount : (cutPulse s).freeCount = s.freeCount := rfl
@[simp] theorem cutPulse_expiries : (cutPulse s).expiries = s.expiries := rfl
@[simp] theorem cutPulse_pending : (cutPulse s).pending = s.pending := rfl
@[simp] theorem cutPulse_cfg : (cutPulse s).cfg = s.cfg := rfl
@[simp] theorem cutPulse_me : (cutPulse s).me = s.me := rfl

@[simp] theorem releaseRef_loader (r : Ref) : (releaseRef r s).loader = s.loader := rfl
@[simp] theorem releaseRef_pins (r : Ref) : (releaseRef r s).pins = s.pins := rfl
@[simp] theorem releaseRef_link (r : Ref) : (releaseRef r s).link = s.link := rfl
@[simp] theorem releaseRef_pos (r : Ref) : (releaseRef r s).pos = s.pos := rfl
@[simp] theorem releaseRef_board (r : Ref) : (releaseRef r s).board = s.board := rfl
@[simp] theorem releaseRef_heat (r : Ref) : (releaseRef r s).heat = s.heat := rfl
@[simp] theorem releaseRef_allot (r : Ref) : (releaseRef r s).allot = s.allot := rfl
@[simp] theorem releaseRef_flux (r : Ref) : (releaseRef r s).flux = s.flux := rfl
@[simp] theorem releaseRef_pot (r : Ref) : (releaseRef r s).pot = s.pot := rfl
@[simp] theorem releaseRef_fume (r : Ref) : (releaseRef r s).fume = s.fume := rfl
@[simp] theorem releaseRef_alarm (r : Ref) : (releaseRef r s).alarm = s.alarm := rfl
@[simp] theorem releaseRef_freeCount (r : Ref) : (releaseRef r s).freeCount = s.freeCount := rfl
@[simp] theorem releaseRef_expiries (r : Ref) : (releaseRef r s).expiries = s.expiries := rfl
@[simp] theorem releaseRef_pending (r : Ref) : (releaseRef r s).pending = s.pending := rfl
@[simp] theorem releaseRef_cfg (r : Ref) : (releaseRef r s).cfg = s.cfg := rfl
@[simp] theorem releaseRef_me (r : Ref) : (releaseRef r s).me = s.me := rfl

@[simp] theorem driveAnswer_loader (a : Answer) : (driveAnswer a s).loader = s.loader := rfl
@[simp] theorem driveAnswer_pins (a : Answer) : (driveAnswer a s).pins = s.pins := rfl
@[simp] theorem driveAnswer_pos (a : Answer) : (driveAnswer a s).pos = s.pos := rfl
@[simp] theorem driveAnswer_board (a : Answer) : (driveAnswer a s).board = s.board := rfl
@[simp] theorem driveAnswer_recipe (a : Answer) : (driveAnswer a s).recipe = s.recipe := rfl
@[simp] theorem driveAnswer_heat (a : Answer) : (driveAnswer a s).heat = s.heat := rfl
@[simp] theorem driveAnswer_allot (a : Answer) : (driveAnswer a s).allot = s.allot := rfl
@[simp] theorem driveAnswer_flux (a : Answer) : (driveAnswer a s).flux = s.flux := rfl
@[simp] theorem driveAnswer_pot (a : Answer) : (driveAnswer a s).pot = s.pot := rfl
@[simp] theorem driveAnswer_fume (a : Answer) : (driveAnswer a s).fume = s.fume := rfl
@[simp] theorem driveAnswer_alarm (a : Answer) : (driveAnswer a s).alarm = s.alarm := rfl
@[simp] theorem driveAnswer_freeCount (a : Answer) : (driveAnswer a s).freeCount = s.freeCount := rfl
@[simp] theorem driveAnswer_expiries (a : Answer) : (driveAnswer a s).expiries = s.expiries := rfl
@[simp] theorem driveAnswer_pending (a : Answer) : (driveAnswer a s).pending = s.pending := rfl
@[simp] theorem driveAnswer_cfg (a : Answer) : (driveAnswer a s).cfg = s.cfg := rfl
@[simp] theorem driveAnswer_slotDriven (a : Answer) : slotDriven (driveAnswer a s) = a.slotBits := rfl
@[simp] theorem driveAnswer_me (a : Answer) : (driveAnswer a s).me = s.me := rfl

@[simp] theorem countBad_loader : (countBad s).loader = s.loader := rfl
@[simp] theorem countBad_pins : (countBad s).pins = s.pins := rfl
@[simp] theorem countBad_pos : (countBad s).pos = s.pos := rfl
@[simp] theorem countBad_board : (countBad s).board = s.board := rfl
@[simp] theorem countBad_recipe : (countBad s).recipe = s.recipe := rfl
@[simp] theorem countBad_heat : (countBad s).heat = s.heat := rfl
@[simp] theorem countBad_allot : (countBad s).allot = s.allot := rfl
@[simp] theorem countBad_flux : (countBad s).flux = s.flux := rfl
@[simp] theorem countBad_pot : (countBad s).pot = s.pot := rfl
@[simp] theorem countBad_fume : (countBad s).fume = s.fume := rfl
@[simp] theorem countBad_alarm : (countBad s).alarm = s.alarm := rfl
@[simp] theorem countBad_freeCount : (countBad s).freeCount = s.freeCount := rfl
@[simp] theorem countBad_expiries : (countBad s).expiries = s.expiries := rfl
@[simp] theorem countBad_pending : (countBad s).pending = s.pending := rfl
@[simp] theorem countBad_cfg : (countBad s).cfg = s.cfg := rfl
@[simp] theorem countBad_me : (countBad s).me = s.me := rfl

@[simp] theorem computeBlockers_loader : (computeBlockers s).loader = s.loader := rfl
@[simp] theorem computeBlockers_pins : (computeBlockers s).pins = s.pins := rfl
@[simp] theorem computeBlockers_link : (computeBlockers s).link = s.link := rfl
@[simp] theorem computeBlockers_pos : (computeBlockers s).pos = s.pos := rfl
@[simp] theorem computeBlockers_recipe : (computeBlockers s).recipe = s.recipe := rfl
@[simp] theorem computeBlockers_heat : (computeBlockers s).heat = s.heat := rfl
@[simp] theorem computeBlockers_allot : (computeBlockers s).allot = s.allot := rfl
@[simp] theorem computeBlockers_flux : (computeBlockers s).flux = s.flux := rfl
@[simp] theorem computeBlockers_pot : (computeBlockers s).pot = s.pot := rfl
@[simp] theorem computeBlockers_fume : (computeBlockers s).fume = s.fume := rfl
@[simp] theorem computeBlockers_alarm : (computeBlockers s).alarm = s.alarm := rfl
@[simp] theorem computeBlockers_freeCount : (computeBlockers s).freeCount = s.freeCount := rfl
@[simp] theorem computeBlockers_expiries : (computeBlockers s).expiries = s.expiries := rfl
@[simp] theorem computeBlockers_pending : (computeBlockers s).pending = s.pending := rfl
@[simp] theorem computeBlockers_cfg : (computeBlockers s).cfg = s.cfg := rfl
@[simp] theorem computeBlockers_me : (computeBlockers s).me = s.me := rfl

@[simp] theorem joinUnentered_loader (p i : Nat) : (joinUnentered p i s).loader = s.loader := rfl
@[simp] theorem joinUnentered_pins (p i : Nat) : (joinUnentered p i s).pins = s.pins := rfl
@[simp] theorem joinUnentered_link (p i : Nat) : (joinUnentered p i s).link = s.link := rfl
@[simp] theorem joinUnentered_pos (p i : Nat) : (joinUnentered p i s).pos = s.pos := rfl
@[simp] theorem joinUnentered_recipe (p i : Nat) : (joinUnentered p i s).recipe = s.recipe := rfl
@[simp] theorem joinUnentered_heat (p i : Nat) : (joinUnentered p i s).heat = s.heat := rfl
@[simp] theorem joinUnentered_allot (p i : Nat) : (joinUnentered p i s).allot = s.allot := rfl
@[simp] theorem joinUnentered_flux (p i : Nat) : (joinUnentered p i s).flux = s.flux := rfl
@[simp] theorem joinUnentered_pot (p i : Nat) : (joinUnentered p i s).pot = s.pot := rfl
@[simp] theorem joinUnentered_fume (p i : Nat) : (joinUnentered p i s).fume = s.fume := rfl
@[simp] theorem joinUnentered_alarm (p i : Nat) : (joinUnentered p i s).alarm = s.alarm := rfl
@[simp] theorem joinUnentered_freeCount (p i : Nat) : (joinUnentered p i s).freeCount = s.freeCount := rfl
@[simp] theorem joinUnentered_expiries (p i : Nat) : (joinUnentered p i s).expiries = s.expiries := rfl
@[simp] theorem joinUnentered_pending (p i : Nat) : (joinUnentered p i s).pending = s.pending := rfl
@[simp] theorem joinUnentered_cfg (p i : Nat) : (joinUnentered p i s).cfg = s.cfg := rfl
@[simp] theorem joinUnentered_me (p i : Nat) : (joinUnentered p i s).me = s.me := rfl

@[simp] theorem zeroCross_loader : (zeroCross s).loader = s.loader := rfl
@[simp] theorem zeroCross_pins : (zeroCross s).pins = s.pins := rfl
@[simp] theorem zeroCross_link : (zeroCross s).link = s.link := rfl
@[simp] theorem zeroCross_pos : (zeroCross s).pos = s.pos := rfl
@[simp] theorem zeroCross_board : (zeroCross s).board = s.board := rfl
@[simp] theorem zeroCross_recipe : (zeroCross s).recipe = s.recipe := rfl
@[simp] theorem zeroCross_allot : (zeroCross s).allot = s.allot := rfl
@[simp] theorem zeroCross_flux : (zeroCross s).flux = s.flux := rfl
@[simp] theorem zeroCross_pot : (zeroCross s).pot = s.pot := rfl
@[simp] theorem zeroCross_fume : (zeroCross s).fume = s.fume := rfl
@[simp] theorem zeroCross_alarm : (zeroCross s).alarm = s.alarm := rfl
@[simp] theorem zeroCross_freeCount : (zeroCross s).freeCount = s.freeCount := rfl
@[simp] theorem zeroCross_expiries : (zeroCross s).expiries = s.expiries := rfl
@[simp] theorem zeroCross_pending : (zeroCross s).pending = s.pending := rfl
@[simp] theorem zeroCross_cfg : (zeroCross s).cfg = s.cfg := rfl
@[simp] theorem zeroCross_me : (zeroCross s).me = s.me := rfl

@[simp] theorem mainsGone_loader : (mainsGone s).loader = s.loader := rfl
@[simp] theorem mainsGone_pins : (mainsGone s).pins = s.pins := rfl
@[simp] theorem mainsGone_link : (mainsGone s).link = s.link := rfl
@[simp] theorem mainsGone_pos : (mainsGone s).pos = s.pos := rfl
@[simp] theorem mainsGone_board : (mainsGone s).board = s.board := rfl
@[simp] theorem mainsGone_recipe : (mainsGone s).recipe = s.recipe := rfl
@[simp] theorem mainsGone_allot : (mainsGone s).allot = s.allot := rfl
@[simp] theorem mainsGone_flux : (mainsGone s).flux = s.flux := rfl
@[simp] theorem mainsGone_pot : (mainsGone s).pot = s.pot := rfl
@[simp] theorem mainsGone_fume : (mainsGone s).fume = s.fume := rfl
@[simp] theorem mainsGone_alarm : (mainsGone s).alarm = s.alarm := rfl
@[simp] theorem mainsGone_freeCount : (mainsGone s).freeCount = s.freeCount := rfl
@[simp] theorem mainsGone_expiries : (mainsGone s).expiries = s.expiries := rfl
@[simp] theorem mainsGone_pending : (mainsGone s).pending = s.pending := rfl
@[simp] theorem mainsGone_cfg : (mainsGone s).cfg = s.cfg := rfl
@[simp] theorem mainsGone_me : (mainsGone s).me = s.me := rfl

@[simp] theorem setSupply_loader (mv : Nat) : (setSupply mv s).loader = s.loader := rfl
@[simp] theorem setSupply_link (mv : Nat) : (setSupply mv s).link = s.link := rfl
@[simp] theorem setSupply_pos (mv : Nat) : (setSupply mv s).pos = s.pos := rfl
@[simp] theorem setSupply_board (mv : Nat) : (setSupply mv s).board = s.board := rfl
@[simp] theorem setSupply_recipe (mv : Nat) : (setSupply mv s).recipe = s.recipe := rfl
@[simp] theorem setSupply_heat (mv : Nat) : (setSupply mv s).heat = s.heat := rfl
@[simp] theorem setSupply_allot (mv : Nat) : (setSupply mv s).allot = s.allot := rfl
@[simp] theorem setSupply_flux (mv : Nat) : (setSupply mv s).flux = s.flux := rfl
@[simp] theorem setSupply_pot (mv : Nat) : (setSupply mv s).pot = s.pot := rfl
@[simp] theorem setSupply_fume (mv : Nat) : (setSupply mv s).fume = s.fume := rfl
@[simp] theorem setSupply_alarm (mv : Nat) : (setSupply mv s).alarm = s.alarm := rfl
@[simp] theorem setSupply_freeCount (mv : Nat) : (setSupply mv s).freeCount = s.freeCount := rfl
@[simp] theorem setSupply_expiries (mv : Nat) : (setSupply mv s).expiries = s.expiries := rfl
@[simp] theorem setSupply_pending (mv : Nat) : (setSupply mv s).pending = s.pending := rfl
@[simp] theorem setSupply_cfg (mv : Nat) : (setSupply mv s).cfg = s.cfg := rfl
@[simp] theorem setSupply_me (mv : Nat) : (setSupply mv s).me = s.me := rfl

@[simp] theorem recoveryEnds_loader (c : Nat) : (recoveryEnds c s).loader = s.loader := rfl
@[simp] theorem recoveryEnds_pins (c : Nat) : (recoveryEnds c s).pins = s.pins := rfl
@[simp] theorem recoveryEnds_link (c : Nat) : (recoveryEnds c s).link = s.link := rfl
@[simp] theorem recoveryEnds_pos (c : Nat) : (recoveryEnds c s).pos = s.pos := rfl
@[simp] theorem recoveryEnds_board (c : Nat) : (recoveryEnds c s).board = s.board := rfl
@[simp] theorem recoveryEnds_recipe (c : Nat) : (recoveryEnds c s).recipe = s.recipe := rfl
@[simp] theorem recoveryEnds_heat (c : Nat) : (recoveryEnds c s).heat = s.heat := rfl
@[simp] theorem recoveryEnds_allot (c : Nat) : (recoveryEnds c s).allot = s.allot := rfl
@[simp] theorem recoveryEnds_flux (c : Nat) : (recoveryEnds c s).flux = s.flux := rfl
@[simp] theorem recoveryEnds_pot (c : Nat) : (recoveryEnds c s).pot = s.pot := rfl
@[simp] theorem recoveryEnds_fume (c : Nat) : (recoveryEnds c s).fume = s.fume := rfl
@[simp] theorem recoveryEnds_freeCount (c : Nat) : (recoveryEnds c s).freeCount = s.freeCount := rfl
@[simp] theorem recoveryEnds_expiries (c : Nat) : (recoveryEnds c s).expiries = s.expiries := rfl
@[simp] theorem recoveryEnds_pending (c : Nat) : (recoveryEnds c s).pending = s.pending := rfl
@[simp] theorem recoveryEnds_cfg (c : Nat) : (recoveryEnds c s).cfg = s.cfg := rfl
@[simp] theorem recoveryEnds_me (c : Nat) : (recoveryEnds c s).me = s.me := rfl

@[simp] theorem settleLost_loader (k : Nat) : (settleLost k s).loader = s.loader := rfl
@[simp] theorem settleLost_pins (k : Nat) : (settleLost k s).pins = s.pins := rfl
@[simp] theorem settleLost_link (k : Nat) : (settleLost k s).link = s.link := rfl
@[simp] theorem settleLost_pos (k : Nat) : (settleLost k s).pos = s.pos := rfl
@[simp] theorem settleLost_board (k : Nat) : (settleLost k s).board = s.board := rfl
@[simp] theorem settleLost_recipe (k : Nat) : (settleLost k s).recipe = s.recipe := rfl
@[simp] theorem settleLost_heat (k : Nat) : (settleLost k s).heat = s.heat := rfl
@[simp] theorem settleLost_allot (k : Nat) : (settleLost k s).allot = s.allot := rfl
@[simp] theorem settleLost_flux (k : Nat) : (settleLost k s).flux = s.flux := rfl
@[simp] theorem settleLost_pot (k : Nat) : (settleLost k s).pot = s.pot := rfl
@[simp] theorem settleLost_fume (k : Nat) : (settleLost k s).fume = s.fume := rfl
@[simp] theorem settleLost_freeCount (k : Nat) : (settleLost k s).freeCount = s.freeCount := rfl
@[simp] theorem settleLost_expiries (k : Nat) : (settleLost k s).expiries = s.expiries := rfl
@[simp] theorem settleLost_pending (k : Nat) : (settleLost k s).pending = s.pending := rfl
@[simp] theorem settleLost_cfg (k : Nat) : (settleLost k s).cfg = s.cfg := rfl
@[simp] theorem settleLost_me (k : Nat) : (settleLost k s).me = s.me := rfl

@[simp] theorem checkDue_loader : (checkDue s).loader = s.loader := rfl
@[simp] theorem checkDue_pins : (checkDue s).pins = s.pins := rfl
@[simp] theorem checkDue_link : (checkDue s).link = s.link := rfl
@[simp] theorem checkDue_pos : (checkDue s).pos = s.pos := rfl
@[simp] theorem checkDue_board : (checkDue s).board = s.board := rfl
@[simp] theorem checkDue_recipe : (checkDue s).recipe = s.recipe := rfl
@[simp] theorem checkDue_heat : (checkDue s).heat = s.heat := rfl
@[simp] theorem checkDue_allot : (checkDue s).allot = s.allot := rfl
@[simp] theorem checkDue_flux : (checkDue s).flux = s.flux := rfl
@[simp] theorem checkDue_fume : (checkDue s).fume = s.fume := rfl
@[simp] theorem checkDue_alarm : (checkDue s).alarm = s.alarm := rfl
@[simp] theorem checkDue_freeCount : (checkDue s).freeCount = s.freeCount := rfl
@[simp] theorem checkDue_expiries : (checkDue s).expiries = s.expiries := rfl
@[simp] theorem checkDue_pending : (checkDue s).pending = s.pending := rfl
@[simp] theorem checkDue_cfg : (checkDue s).cfg = s.cfg := rfl
@[simp] theorem checkDue_me : (checkDue s).me = s.me := rfl

@[simp] theorem levelStaleNow_loader : (levelStaleNow s).loader = s.loader := rfl
@[simp] theorem levelStaleNow_pins : (levelStaleNow s).pins = s.pins := rfl
@[simp] theorem levelStaleNow_link : (levelStaleNow s).link = s.link := rfl
@[simp] theorem levelStaleNow_pos : (levelStaleNow s).pos = s.pos := rfl
@[simp] theorem levelStaleNow_board : (levelStaleNow s).board = s.board := rfl
@[simp] theorem levelStaleNow_recipe : (levelStaleNow s).recipe = s.recipe := rfl
@[simp] theorem levelStaleNow_heat : (levelStaleNow s).heat = s.heat := rfl
@[simp] theorem levelStaleNow_allot : (levelStaleNow s).allot = s.allot := rfl
@[simp] theorem levelStaleNow_flux : (levelStaleNow s).flux = s.flux := rfl
@[simp] theorem levelStaleNow_fume : (levelStaleNow s).fume = s.fume := rfl
@[simp] theorem levelStaleNow_alarm : (levelStaleNow s).alarm = s.alarm := rfl
@[simp] theorem levelStaleNow_freeCount : (levelStaleNow s).freeCount = s.freeCount := rfl
@[simp] theorem levelStaleNow_expiries : (levelStaleNow s).expiries = s.expiries := rfl
@[simp] theorem levelStaleNow_pending : (levelStaleNow s).pending = s.pending := rfl
@[simp] theorem levelStaleNow_cfg : (levelStaleNow s).cfg = s.cfg := rfl
@[simp] theorem levelStaleNow_me : (levelStaleNow s).me = s.me := rfl

@[simp] theorem riseExpired_loader : (riseExpired s).loader = s.loader := rfl
@[simp] theorem riseExpired_pins : (riseExpired s).pins = s.pins := rfl
@[simp] theorem riseExpired_link : (riseExpired s).link = s.link := rfl
@[simp] theorem riseExpired_pos : (riseExpired s).pos = s.pos := rfl
@[simp] theorem riseExpired_board : (riseExpired s).board = s.board := rfl
@[simp] theorem riseExpired_recipe : (riseExpired s).recipe = s.recipe := rfl
@[simp] theorem riseExpired_heat : (riseExpired s).heat = s.heat := rfl
@[simp] theorem riseExpired_allot : (riseExpired s).allot = s.allot := rfl
@[simp] theorem riseExpired_flux : (riseExpired s).flux = s.flux := rfl
@[simp] theorem riseExpired_pot : (riseExpired s).pot = s.pot := rfl
@[simp] theorem riseExpired_alarm : (riseExpired s).alarm = s.alarm := rfl
@[simp] theorem riseExpired_freeCount : (riseExpired s).freeCount = s.freeCount := rfl
@[simp] theorem riseExpired_expiries : (riseExpired s).expiries = s.expiries := rfl
@[simp] theorem riseExpired_pending : (riseExpired s).pending = s.pending := rfl
@[simp] theorem riseExpired_cfg : (riseExpired s).cfg = s.cfg := rfl
@[simp] theorem riseExpired_me : (riseExpired s).me = s.me := rfl

end Sys2Proof.Machine
end

