-- ==== Sys2Proof/Laws/Frames.lean ====
section
/-! SUPPORT. Frames of the operations that end a command. `offAlarm s` forgets what reports and
announcements may write; `steady s` forgets besides what the answer to an offer may write. An operation
that keeps one of them leaves everything it does not forget as it was. -/
namespace Sys2Proof.Machine

/-- The state but for what reports, announcements and queued frames write: the alarm sets and list, the
transmit queue and its counts, the blockers, the snapshot latch and the expiries overtaken. -/
def offAlarm (s : State) : State :=
  { s with
    alarm := { AlarmUnit.cold with ack := s.alarm.ack }
    link := { s.link with queue := [], discard := 0, statusAge := none, offersDropped := [] }
    board := { s.board with admitFlag := false, blockers := Blockers.empty }
    pos := { s.pos with snapshot := none }
    expiries := ⟨[], []⟩ }

/-- `offAlarm`, but for what the answer to an offer and the removal of a record write besides. -/
def steady (s : State) : State :=
  { offAlarm s with
    board := { (offAlarm s).board with queue := [], handoff := Handoff.clear }
    pos := { (offAlarm s).pos with schedule := [] }
    heat := { s.heat with notes := [] }
    recipe := RecipeStore.cold
    flux := { s.flux with series := none, nozzle := none, handled := [] }
    pot := { s.pot with raised := [], quiet := 0 }
    fume := { s.fume with required := 0, target := 0, rise := none } }

/-- What keeps `offAlarm` keeps `steady`. -/
theorem steady_of_offAlarm {s t : State} (h : offAlarm t = offAlarm s) : steady t = steady s := by
  have e : ∀ x : State, steady x = steady (offAlarm x) := fun _ => rfl
  rw [e t, e s, h]

/-! ### Queueing -/

theorem offAlarm_dropFrame (e : TxEntry) (s : State) : offAlarm (dropFrame e s) = offAlarm s := by
  unfold dropFrame; split <;> rfl

theorem offAlarm_enqueue (b : Block) (t : BitVec 5) (x : Body) (s : State) :
    offAlarm (enqueue b t x s) = offAlarm s := by
  unfold enqueue
  simp only []
  split
  · rfl
  · rw [offAlarm_dropFrame]; rfl

theorem offAlarm_appearance (c : Nat) (s : State) : offAlarm (appearance c s) = offAlarm s := by
  unfold appearance AlarmUnit.appear
  split
  · split <;> rfl
  · rfl

theorem ack_enter (e : LineEntry) (a : AlarmUnit) : (a.enter e).ack = a.ack := by
  unfold AlarmUnit.enter
  split
  · rfl
  · split
    · rfl
    · split <;> rfl

theorem offAlarm_alarm (s : State) (a : AlarmUnit) (h : a.ack = s.alarm.ack) :
    offAlarm { s with alarm := a } = offAlarm s := by
  simp [offAlarm, h]

theorem offAlarm_announce (c : Nat) (i g : Bool) (s : State) :
    offAlarm (announce c i g s) = offAlarm s := by
  unfold announce queueRaise
  rw [offAlarm_enqueue, offAlarm_alarm]
  exact ack_enter _ _

theorem offAlarm_remark (c : Nat) (g : Bool) (s : State) : offAlarm (remark c g s) = offAlarm s := by
  unfold remark queueRaise
  rw [offAlarm_enqueue]; rfl

theorem offAlarm_overtake (t : OwnTimer) (s : State) : offAlarm (overtake t s) = offAlarm s := by
  unfold overtake; split <;> rfl

theorem offAlarm_clearCode (c : Nat) (g : Bool) (s : State) :
    offAlarm (clearCode c g s) = offAlarm s := by
  unfold clearCode
  rw [offAlarm_enqueue]; rfl

theorem offAlarm_computeBlockers (s : State) : offAlarm (computeBlockers s) = offAlarm s := rfl

theorem offAlarm_queueStatus (m : Bool) (s : State) : offAlarm (queueStatus m s) = offAlarm s := by
  have h := offAlarm_enqueue .link allTarget (.status (gatherStatus m (computeBlockers s)))
    (computeBlockers s)
  rw [offAlarm_computeBlockers] at h
  unfold queueStatus
  simp only []
  rw [offAlarm_overtake, ← h]; rfl

/-! ### Reports -/

theorem not_overtemp_of_live {c : Nat} (h : alarmLive c = true) : inLimits 18 c 23 = false := by
  simp [alarmLive, inLimits] at *
  omega

theorem not_overtemp_of_level0 {c : Nat} (h : levelOf c = 0) : inLimits 18 c 23 = false := by
  cases hv : inLimits 18 c 23 with
  | false => rfl
  | true =>
  simp [inLimits] at hv
  have : levelOf c = 7 := by
    unfold levelOf alarmLevel
    have h1 : ¬ c ≤ 5 := by omega
    have h2 : ¬ c ≤ 11 := by omega
    have h3 : ¬ c ≤ 17 := by omega
    have h4 : c ≤ 23 := by omega
    simp [h1, h2, h3, h4]
  omega

theorem offAlarm_leaveInService {c : Nat} (h : inLimits 18 c 23 = false) (s : State) :
    offAlarm (leaveInService c s) = offAlarm s := by
  unfold leaveInService
  simp only [h]
  exact offAlarm_clearCode _ _ _

theorem offAlarm_conditionStarts (c : Nat) (s : State) :
    offAlarm (conditionStarts c s) = offAlarm s := by
  unfold conditionStarts
  simp only []
  split
  · rfl
  · rw [offAlarm_remark]; rfl
  all_goals rfl

theorem offAlarm_conditionEnds {c : Nat} (h : inLimits 18 c 23 = false) (s : State) :
    offAlarm (conditionEnds c s) = offAlarm s := by
  unfold conditionEnds
  simp only []
  split
  · rfl
  · rw [offAlarm_remark]; rfl
  · rw [offAlarm_leaveInService h]; rfl
  all_goals rfl

theorem offAlarm_reportLive {c : Nat} (h : inLimits 18 c 23 = false) (b : Bool) (s : State) :
    offAlarm (reportLive c b s) = offAlarm s := by
  unfold reportLive
  split
  · rfl
  · split
    · exact offAlarm_conditionStarts _ _
    · exact offAlarm_conditionEnds h _

theorem offAlarm_reportRecovery {c : Nat} (h : inLimits 18 c 23 = false) (b : Bool) (s : State) :
    offAlarm (reportRecovery c b s) = offAlarm s := by
  unfold reportRecovery
  split
  · rfl
  · split
    · rfl
    · simp only []
      split
      · split <;> rfl
      · rw [offAlarm_leaveInService h]; rfl
      all_goals rfl

theorem offAlarm_reportCode (c : Nat) (s : State) : offAlarm (reportCode c s) = offAlarm s := by
  unfold reportCode
  split
  · rename_i h; exact offAlarm_reportLive (not_overtemp_of_live h) _ _
  · split
    · rename_i h
      refine offAlarm_reportRecovery ?_ _ _
      simp [inLimits]; omega
    · rfl

theorem offAlarm_reportCodes (l : List Nat) (s : State) :
    offAlarm (reportCodes l s) = offAlarm s := by
  induction l generalizing s with
  | nil => rfl
  | cons c cs ih => rw [reportCodes, ih, offAlarm_reportCode]

theorem offAlarm_syncAlarms (s : State) : offAlarm (syncAlarms s) = offAlarm s :=
  offAlarm_reportCodes _ _

/-! ### Announcement -/

theorem offAlarm_joinInService {c : Nat} (h : inLimits 18 c 23 = false) (s : State) :
    offAlarm (joinInService c s) = offAlarm s := by
  unfold joinInService
  simp only [h]
  rfl

theorem offAlarm_settleInService {c : Nat} (h : inLimits 18 c 23 = false) (s : State) :
    offAlarm (settleInService c s) = offAlarm s := by
  unfold settleInService
  split
  · rfl
  · split
    · exact offAlarm_leaveInService h _
    · split
      · exact offAlarm_leaveInService h _
      · rfl
    · rfl

theorem offAlarm_announcePick (c : Nat) (s : State) :
    offAlarm (announcePick c s) = offAlarm s := by
  unfold announcePick
  simp only []
  split
  · rename_i h
    have h := not_overtemp_of_level0 h
    rw [offAlarm_settleInService h, offAlarm_announce, offAlarm_joinInService h]; rfl
  · rw [offAlarm_queueStatus, offAlarm_announce]; rfl

theorem offAlarm_announceAll (n : Nat) (s : State) : offAlarm (announceAll n s) = offAlarm s := by
  induction n generalizing s with
  | zero => rfl
  | succ n ih =>
    unfold announceAll
    split
    · rfl
    · rw [ih, offAlarm_announcePick]

/-! ### The removal of a record and the answer to an offer -/

theorem steady_closeSeries (s : State) : steady (closeSeries s) = steady s := by
  unfold closeSeries
  split
  · rfl
  · split <;> rfl

theorem steady_fluxRemoval (t : Tag) (s : State) : steady (fluxRemoval t s) = steady s := by
  have h : ∀ x : State, steady { x with flux := { x.flux with
      handled := x.flux.handled.filter fun y => y != t } } = steady x := fun _ => rfl
  unfold fluxRemoval
  simp only []
  rw [h]
  split
  · split
    · exact steady_closeSeries _
    · rfl
  · rfl

theorem steady_touchPumps (s : State) : steady (touchPumps s) = steady s := by
  unfold touchPumps; split <;> rfl

theorem steady_potRemoval (t : Tag) (s : State) : steady (potRemoval t s) = steady s := by
  unfold potRemoval; rw [steady_touchPumps]; rfl

theorem steady_riseRestarted (s : State) : steady (riseRestarted s) = steady s := by
  unfold riseRestarted
  split
  · exact steady_of_offAlarm (offAlarm_overtake _ _)
  · rfl

theorem steady_formRequired (s : State) : steady (formRequired s) = steady s := by
  unfold formRequired
  split
  · rw [steady_riseRestarted]
    unfold Fume.retarget
    split
    · rfl
    · split
      · split <;> rfl
      · rfl
  · rfl

theorem steady_removeRecord (t : Tag) (s : State) : steady (removeRecord t s) = steady s := by
  unfold removeRecord
  split
  · rfl
  · simp only []
    rw [steady_formRequired, steady_potRemoval, steady_fluxRemoval]; rfl

theorem steady_removeWithExit (t : Tag) (c : ExitCause) (s : State) :
    steady (removeWithExit t c s) = steady s := by
  unfold removeWithExit
  split
  · rfl
  · rw [steady_of_offAlarm (offAlarm_enqueue _ _ _ _), steady_removeRecord]

theorem steady_answerOffer (t : Tag) (a : Answer) (s : State) :
    steady (answerOffer t a s) = steady s := by
  unfold answerOffer
  split
  · rfl
  · simp only []
    split
    · split
      · rw [steady_removeRecord]; rfl
      · rfl
    · rw [steady_of_offAlarm (offAlarm_appearance _ _), steady_removeWithExit]; rfl
    all_goals
      split
      · rw [steady_removeWithExit]; rfl
      · rfl

/-- An answer for which there is no exit-bound record is dropped (R66). -/
theorem answerOffer_no_bound {t : Tag} {a : Answer} {s : State} (h : s.board.handoff.bound = none) :
    answerOffer t a s = s := by
  unfold answerOffer; simp [h]

/-! ### The end of a command -/

theorem steady_deliverDropped (s : State) : steady (deliverDropped s) = steady s := by
  have h : ∀ (l : List Tag) (x : State),
      steady (l.foldl (fun s t => answerOffer t .none s) x) = steady x := by
    intro l
    induction l with
    | nil => intro x; rfl
    | cons t ts ih => intro x; rw [List.foldl_cons, ih, steady_answerOffer]
  unfold deliverDropped
  rw [h]; rfl

theorem offAlarm_deliverDropped {s : State} (hb : s.board.handoff.bound = none) :
    offAlarm (deliverDropped s) = offAlarm s := by
  have h : ∀ (l : List Tag) (x : State), x.board.handoff.bound = none →
      l.foldl (fun s t => answerOffer t .none s) x = x := by
    intro l
    induction l with
    | nil => intro x _; rfl
    | cons t ts ih => intro x hx; rw [List.foldl_cons, answerOffer_no_bound hx, ih x hx]
  unfold deliverDropped
  rw [h]
  · rfl
  · exact hb

theorem bound_of_offAlarm {s t : State} (h : offAlarm t = offAlarm s) :
    t.board.handoff.bound = s.board.handoff.bound := by
  have e := congrArg (fun x : State => x.board.handoff.bound) h
  exact e

theorem steady_settleOnce (s : State) : steady (settleOnce s) = steady s := by
  unfold settleOnce
  rw [steady_of_offAlarm (offAlarm_announceAll _ _), steady_of_offAlarm (offAlarm_syncAlarms _),
    steady_deliverDropped]

theorem offAlarm_settleOnce {s : State} (hb : s.board.handoff.bound = none) :
    offAlarm (settleOnce s) = offAlarm s := by
  unfold settleOnce
  rw [offAlarm_announceAll, offAlarm_syncAlarms, offAlarm_deliverDropped hb]

/-- What ends a command leaves everything that `steady` keeps as it was. -/
theorem steady_finish (s : State) : steady (finish s) = steady s := by
  unfold finish
  split
  · rw [steady_settleOnce, steady_settleOnce, steady_settleOnce]
  · rfl

/-- With no exit-bound record, what ends a command touches the alarm side alone. -/
theorem offAlarm_finish {s : State} (hb : s.board.handoff.bound = none) :
    offAlarm (finish s) = offAlarm s := by
  unfold finish
  split
  · have h1 := offAlarm_settleOnce hb
    have b1 : (settleOnce s).board.handoff.bound = none := by rw [bound_of_offAlarm h1, hb]
    have h2 := offAlarm_settleOnce b1
    have b2 : (settleOnce (settleOnce s)).board.handoff.bound = none := by
      rw [bound_of_offAlarm h2, b1]
    rw [offAlarm_settleOnce b2, h2, h1]
  · rfl

end Sys2Proof.Machine
end

