-- ==== Sys2Proof/Laws/Ops.lean ====
section
/-! SUPPORT. What the shared operations over the schedule, the transmit queue, the records and the line
alarm list can do, one lemma each, for the provers to cite instead of unfolding them. -/
namespace Sys2Proof.Machine

/-! ### The event schedule (R38, R39) -/

theorem mem_placeEvent {c : Pos} {e x : Event} {l : List Event} :
    x ∈ placeEvent c e l ↔ x = e ∨ x ∈ l := by
  induction l with
  | nil => simp [placeEvent]
  | cons y ys ih =>
    unfold placeEvent
    split
    · simp
    · simp only [List.mem_cons, ih]
      constructor
      · rintro (h | h | h) <;> simp [h]
      · rintro (h | h | h) <;> simp [h]

@[simp] theorem length_placeEvent (c : Pos) (e : Event) (l : List Event) :
    (placeEvent c e l).length = l.length + 1 := by
  induction l with
  | nil => rfl
  | cons y ys ih => unfold placeEvent; split <;> simp [ih]

/-- A list loses at least one element to a filter that one of its elements fails. -/
theorem length_filter_lt {α : Type} {p : α → Bool} {l : List α} {x : α} (hx : x ∈ l) (hp : p x = false) :
    (l.filter p).length + 1 ≤ l.length := by
  induction l with
  | nil => cases hx
  | cons y ys ih =>
    rcases List.mem_cons.mp hx with rfl | h
    · simp only [List.filter_cons, hp, List.length_cons]
      have := List.length_filter_le p ys
      simpa using this
    · have := ih h
      simp only [List.filter_cons, List.length_cons]
      split
      · simp only [List.length_cons]; omega
      · omega

/-- An insertion keeps the bound of 48 entries (R37, R39). -/
theorem length_scheduleInsert {c : Pos} {e : Event} {l l' : List Event} (h : scheduleInsert c e l = some l')
    (hl : l.length ≤ 48) : l'.length ≤ 48 := by
  unfold scheduleInsert at h
  split at h
  · rename_i hk
    cases h
    obtain ⟨x, hx, hs⟩ := List.any_eq_true.mp hk
    have := length_filter_lt (p := fun y => !e.sameKey y) hx (by simp [hs])
    simp only [length_placeEvent]; omega
  · split at h
    · cases h; simp only [length_placeEvent]; omega
    · cases h

/-! ### The transmit queue (R7, R10, R11) -/

theorem mem_insertByKey {e x : TxEntry} {l : List TxEntry} : x ∈ insertByKey e l ↔ x = e ∨ x ∈ l := by
  induction l with
  | nil => simp [insertByKey]
  | cons y ys ih =>
    unfold insertByKey
    split
    · simp
    · simp only [List.mem_cons, ih]
      constructor
      · rintro (h | h | h) <;> simp [h]
      · rintro (h | h | h) <;> simp [h]

@[simp] theorem length_insertByKey (e : TxEntry) (l : List TxEntry) :
    (insertByKey e l).length = l.length + 1 := by
  induction l with
  | nil => rfl
  | cons y ys ih => unfold insertByKey; split <;> simp [ih]

theorem length_replaceWaiting {e : TxEntry} {l l' : List TxEntry} (h : replaceWaiting e l = some l') :
    l'.length = l.length := by
  induction l generalizing l' with
  | nil => cases h
  | cons y ys ih =>
    unfold replaceWaiting at h
    split at h
    · cases h; rfl
    · obtain ⟨m, hm, rfl⟩ := Option.map_eq_some_iff.mp h
      simp [ih hm]

/-- Placing a frame keeps the bound of 12 frames (R7, R11). -/
theorem length_placeFrame {q : List TxEntry} (e : TxEntry) (hq : q.length ≤ 12) :
    (placeFrame q e).1.length ≤ 12 := by
  unfold placeFrame
  split
  · rename_i q' h
    split at h
    · rw [length_replaceWaiting h]; exact hq
    · cases h
  · split
    · simp only [length_insertByKey]; omega
    · split
      · exact hq
      · split
        · exact hq
        · rename_i j _ w hw
          split
          · have hj := (List.getElem?_eq_some_iff.mp hw).1
            simp only [length_insertByKey, List.length_eraseIdx]
            rw [if_pos hj]; omega
          · exact hq

/-- Queueing a frame writes the queue, the discard count, the dropped offers and the snapshot latch, and
nothing else (R7, R11, R45). -/
theorem enqueue_eq (b : Block) (t : BitVec 5) (x : Body) (s : State) :
    ∃ q d o n, enqueue b t x s =
      { s with link := { s.link with queue := q, discard := d, offersDropped := o }
               pos := { s.pos with snapshot := n } } := by
  unfold enqueue
  simp only []
  split
  · exact ⟨_, _, _, _, rfl⟩
  · unfold dropFrame
    split <;> exact ⟨_, _, _, _, rfl⟩

theorem length_enqueue (b : Block) (t : BitVec 5) (x : Body) (s : State) (h : s.link.queue.length ≤ 12) :
    (enqueue b t x s).link.queue.length ≤ 12 := by
  have := length_placeFrame ⟨x, t, b, false, false⟩ h
  unfold enqueue
  simp only []
  split
  · exact this
  · unfold dropFrame; split <;> exact this

/-! ### Records (R52, R53) -/

theorem mem_placeRecord {r x : BoardRecord} {l : List BoardRecord} :
    x ∈ placeRecord r l ↔ x = r ∨ x ∈ l := by
  induction l with
  | nil => simp [placeRecord]
  | cons y ys ih =>
    unfold placeRecord
    split
    · simp
    · simp only [List.mem_cons, ih]
      constructor
      · rintro (h | h | h) <;> simp [h]
      · rintro (h | h | h) <;> simp [h]

@[simp] theorem length_updateRecord (t : Tag) (f : BoardRecord → BoardRecord) (q : List BoardRecord) :
    (updateRecord t f q).length = q.length := by simp [updateRecord]

/-- The record with a tag after a change to it that keeps its tag. -/
theorem findRecord_updateRecord {t : Tag} {f : BoardRecord → BoardRecord} {q : List BoardRecord}
    (hf : ∀ r, (f r).tag = r.tag) :
    findRecord t (updateRecord t f q) = (findRecord t q).map f := by
  induction q with
  | nil => rfl
  | cons r rs ih =>
    unfold findRecord updateRecord at *
    by_cases h : r.tag = t
    · simp [h, hf]
    · simp only [List.map_cons, List.find?_cons, beq_iff_eq, h, if_false, beq_eq_false_iff_ne.mpr h,
        not_false_eq_true] at *
      exact ih

/-- No record has a tag that the queue has been cleared of. -/
theorem findRecord_filter (t : Tag) (q : List BoardRecord) :
    findRecord t (q.filter fun x => x.tag != t) = none := by
  simp [findRecord]

@[simp] theorem addException_tag (e : BoardException) (r : BoardRecord) :
    (r.addException e).tag = r.tag := by
  unfold BoardRecord.addException; split
  · rfl
  · split <;> rfl

/-! ### The line alarm list (R199) -/

theorem mem_placeLine {e x : LineEntry} {l : List LineEntry} : x ∈ placeLine e l ↔ x = e ∨ x ∈ l := by
  induction l with
  | nil => simp [placeLine]
  | cons y ys ih =>
    unfold placeLine
    split
    · simp
    · simp only [List.mem_cons, ih]
      constructor
      · rintro (h | h | h) <;> simp [h]
      · rintro (h | h | h) <;> simp [h]

@[simp] theorem length_placeLine (e : LineEntry) (l : List LineEntry) :
    (placeLine e l).length = l.length + 1 := by
  induction l with
  | nil => rfl
  | cons y ys ih => unfold placeLine; split <;> simp [ih]

/-! ### The isolation count (R13, R179) -/

/-- Setting the isolation count writes besides it only what an adopted flag formed anew changes. -/
theorem setIsolation_eq (n : Nat) (s : State) :
    ∃ nz ad gr gz, setIsolation n s =
      { s with link := { s.link with isolation := n }
               flux := { s.flux with nozzle := nz }
               fume := { s.fume with adopted := ad, grace := gr, graceZero := gz } } := by
  unfold setIsolation formAdopted provenChanged cutPulse
  simp only []
  repeat' split
  all_goals exact ⟨_, _, _, _, rfl⟩

/-! ### Expiries overtaken (log entry 3) -/

/-- A timer restarted changes the model's own record of expiries alone. -/
theorem overtake_eq (t : OwnTimer) (s : State) : ∃ e, overtake t s = { s with expiries := e } := by
  unfold overtake; split <;> exact ⟨_, rfl⟩

/-- A void expiry changes the model's own record of expiries alone. -/
theorem takeExpiry_void {t : OwnTimer} {act : State → State} {s : State} (h : t ∈ s.expiries.lapsed) :
    takeExpiry t act s =
      { s with expiries := { s.expiries with lapsed := withoutTimer t s.expiries.lapsed } } := by
  simp [takeExpiry, h]

/-- Any other expiry acts. -/
theorem takeExpiry_acts {t : OwnTimer} {act : State → State} {s : State} (h : t ∉ s.expiries.lapsed) :
    takeExpiry t act s =
      act { s with expiries := { s.expiries with queued := withoutTimer t s.expiries.queued } } := by
  simp [takeExpiry, h]

/-- An expiry restarted is void when it is taken. -/
theorem overtake_lapses {t : OwnTimer} {s : State} (h : t ∈ s.expiries.queued) :
    t ∈ (overtake t s).expiries.lapsed := by
  simp [overtake, h]

/-! ### The order of what a millisecond brings (log entry 4) -/

/-- Putting the end of a melt pause in front neither adds nor drops a command. -/
@[simp] theorem mem_pauseFirst {c : Instr} {l : List Instr} : c ∈ pauseFirst l ↔ c ∈ l := by
  unfold pauseFirst
  split
  · by_cases h : c = .meltPauseEnd <;> simp_all
  · rfl

/-- The end of a melt pause is taken before everything due with it (R169). -/
theorem pauseFirst_of_mem {l : List Instr} (h : Instr.meltPauseEnd ∈ l) :
    pauseFirst l = .meltPauseEnd :: l.filter (fun c => c != .meltPauseEnd) := if_pos h

/-- With no melt pause at its end the order stands. -/
theorem pauseFirst_of_not_mem {l : List Instr} (h : Instr.meltPauseEnd ∉ l) : pauseFirst l = l := if_neg h

/-! ### Gone marks (R193) -/

/-- A change of the gone mark lists nothing that was not listed. -/
@[simp] theorem AlarmUnit.length_listGone (o c : Nat) (g : Bool) (a : AlarmUnit) :
    (a.listGone o c g).list.length = a.list.length := by
  simp [AlarmUnit.listGone]

/-! ### The alarm sets (R190) -/

theorem AlarmUnit.at_move {a : AlarmUnit} {c : Nat} {p : Place} (h : c < a.place.length) :
    (a.move c p).at c = p := by
  simp [AlarmUnit.at, AlarmUnit.move, h]

theorem AlarmUnit.at_move_ne {a : AlarmUnit} {c d : Nat} {p : Place} (h : d ≠ c) :
    (a.move c p).at d = a.at d := by
  simp [AlarmUnit.at, AlarmUnit.move, List.getElem?_set_ne (Ne.symm h)]

end Sys2Proof.Machine
end

