-- ==== Sys2Proof/Tests/Slice0.lean ====
section
/-! SUPPORT. Tests of the model on the spec's worked examples, the smoke test of WellFormed, and a
witness for the hypotheses of every statement that has any. -/
namespace Sys2Proof.Tests
open Sys2Proof.Machine

-- One theorem at a time: tests elaborated side by side wait for one another, and each waiting one holds a
-- thread and its stack.
set_option Elab.async false

/-! ### A station to test on -/

/-- The curve of the example in 10.4. -/
def curve : List CurvePoint :=
  [⟨0, 150⟩, ⟨200, 250⟩, ⟨400, 380⟩, ⟨800, 560⟩, ⟨1200, 700⟩, ⟨1600, 820⟩, ⟨2400, 950⟩, ⟨3200, 1000⟩]

/-- An image of station 2 of a line of stations 2, 3 and 4 with panel 0 and every function. -/
def img : Image :=
  { Image.blank with
    functions := ⟨true, true, true, true, true, true⟩
    rate := 2
    upstream := some 4
    downstream := some 3
    members := 0x1C
    cover := 2
    assumed := List.replicate 16 ⟨0, 100, 150⟩
    geometry := ⟨6000, 400, 300, 300, 50, 300, 100, 20,
      [⟨500, 2500, 3⟩, ⟨2500, 4500, 4⟩, ⟨0, 0, 0⟩, ⟨0, 0, 0⟩], 1200, 5000, 100, 100⟩
    channels := [⟨.preheatTop, 0, 0, some 6, 80, 40, 12, 3000, 500⟩,
      ⟨.preheatBottom, 1, 1, none, 60, 40, 12, 3000, 500⟩, ⟨.pot, 0, 2, none, 60, 30, 10, 2900, 2500⟩,
      ⟨.unused, 0, 0, none, 0, 0, 0, 0, 0⟩, ⟨.unused, 0, 0, none, 0, 0, 0, 0, 0⟩,
      ⟨.unused, 0, 0, none, 0, 0, 0, 0, 0⟩]
    heatDet := ⟨20, 50, 30, 20⟩
    fumeDet := ⟨10, 30, 10, 10⟩
    guardStep := 100
    idleTime := 1800
    pot := ⟨40, 620, 560, 520, 585, 600, 20, 8, 120⟩
    fume := ⟨300, 100, 80, 8, 30, 200, 400, curve⟩
    hornLevel := 5
    supplyLimit := 300
    roundPeriod := 1000 }

/-- The station in a state, with its image. -/
def inState (st : StationState) : State :=
  { State.reset with
    loader := ⟨st, some 2, some 2, some img, true, 2⟩
    heat := Heat.cold img
    pot := Pot.cold img
    fume := Fume.cold img }

/-- The station in RUNNING with nothing on it. -/
def run : State := inState .running

/-- The state a command leads to. -/
def after (c : Instr) (s : State) : State :=
  match exec c s with
  | .next t => t
  | _ => s

/-- A byte string. -/
def bytes (l : List Nat) : List Byte := l.map (BitVec.ofNat 8)

/-- A frame of a source to ALL. -/
def toAll (src : BitVec 4) (body : List Nat) : Rx := ⟨src, 31, bytes body⟩

/-- A frame of a source to this station. -/
def toMe (src : BitVec 4) (body : List Nat) : Rx := ⟨src, 2, bytes body⟩

/-- Bytes of a valid start image of station 2: members 2, 3 and 4, panel 0, every function. -/
def imageBytes : List Byte :=
  bytes ([73, 54, 1, 210, 0, 7, 63, 2, 0, 255, 3, 0, 28, 2, 0, 0, 0, 100, 0, 150]
    ++ [0, 0, 0, 100, 0, 150, 0, 0, 0, 100, 0, 150, 0, 0, 0, 100, 0, 150, 0, 0]
    ++ [0, 100, 0, 150, 0, 0, 0, 100, 0, 150, 0, 0, 0, 100, 0, 150, 0, 0, 0, 100]
    ++ [0, 150, 0, 0, 0, 100, 0, 150, 0, 0, 0, 100, 0, 150, 0, 0, 0, 100, 0, 150]
    ++ [0, 0, 0, 100, 0, 150, 0, 0, 0, 100, 0, 150, 0, 0, 0, 100, 0, 150, 0, 0]
    ++ [0, 100, 0, 150, 0, 0, 0, 100, 0, 150, 0, 23, 112, 0, 1, 144, 1, 44, 1, 44]
    ++ [0, 50, 0, 1, 44, 0, 100, 20, 0, 1, 244, 0, 9, 196, 3, 0, 9, 196, 0, 17]
    ++ [148, 4]
    ++ List.replicate 15 0
    ++ [4, 176, 0, 19, 136, 0, 100, 0, 100, 1, 0, 0, 6, 80, 40, 12, 11, 184, 1, 244]
    ++ [2, 1, 1, 255, 60, 40, 12, 11, 184, 1, 244, 3, 0, 2, 255, 60, 30, 10, 11, 84]
    ++ [9, 196]
    ++ List.replicate 34 0
    ++ [20, 0, 50, 30, 20, 0, 10, 0, 30, 10, 10, 0, 100, 7, 8, 40, 2, 108, 2, 48]
    ++ [2, 8, 2, 73, 2, 88, 20, 8, 0, 120, 1, 44, 0, 100, 0, 80, 8, 0, 30, 0]
    ++ [200, 1, 144, 0, 0, 0, 150, 0, 200, 0, 250, 1, 144, 1, 124, 3, 32, 2, 48, 4]
    ++ [176, 2, 188, 6, 64, 3, 52, 9, 96, 3, 182, 12, 128, 3, 232]
    ++ List.replicate 8 0
    ++ [5, 1, 1, 1, 0, 2, 2, 0, 1]
    ++ List.replicate 56 0
    ++ [10, 40, 5, 220, 5, 220, 5, 220, 5, 220, 5, 220, 5, 220, 5, 220, 5, 220, 5, 220]
    ++ [5, 220, 5, 220, 5, 220, 5, 220, 5, 220, 5, 220, 5, 220, 5, 120, 5, 120, 5, 120]
    ++ [5, 120, 5, 120, 5, 120, 5, 120, 5, 120, 5, 120, 5, 120, 5, 120, 5, 120, 5, 120]
    ++ [5, 120, 5, 120, 5, 120, 38, 0, 30, 0, 30, 0, 200, 50, 12, 20, 120, 150, 1, 1]
    ++ [44, 3, 232, 215, 219])

/-! ### WellFormed: an ill-formed term for each check -/

theorem test_wf_raw_body : Instr.wf (.badFrame ⟨1, 0, 31, 3, bytes [1, 2, 3, 4], 0, true⟩) = false := by
  decide
theorem test_wf_conflict : Instr.wf (.numberConflict .snapshot (toAll 2 [])) = false := by decide
theorem test_wf_not_taken : Instr.wf (.frameNotTaken .restart (toAll 2 [1])) = false := by decide
theorem test_wf_aimed : Instr.wf (.frameAimedAtOtherStation .boardOffer (toAll 2 [])) = false := by
  decide
theorem test_wf_frames :
    ([Instr.alarmRaise (toAll 3 [1]), .alarmAck (toAll 3 []), .alarmClear (toAll 3 [1]),
      .boardOffer (toAll 3 []), .admitted (toAll 3 [1]), .boardExit (toAll 3 [1]),
      .boardNotice (toAll 0 [1]), .boardWithdraw (toAll 0 [1]), .recipePage (toAll 0 [1]),
      .recipeWithdraw (toAll 0 [1]), .heatDemand (toAll 3 [1]), .status (toAll 3 [1]),
      .snapshot (toAll 0 []), .restart (toAll 0 [1])].all fun c => !c.wf) = true := by decide
theorem test_wf_numbers :
    ([Instr.peerStatusStale 16, .fetchTimerExpiry 32, .heatSample [], .idleTimerExpiry 6,
      .blindTimerExpiry 6].all fun c => !c.wf) = true := by decide
theorem test_wf_accepts :
    ([Instr.alarmAck (toAll 3 [1]), .alarmAck (toAll 3 [1, 2]), .restart (toMe 0 []),
      .peerStatusStale 15, .fetchTimerExpiry 31, .idleTimerExpiry 5].all Instr.wf) = true := by decide

/-! ### Link: 01 and 12 -/

/-- The check value of this CRC over the nine characters 1 to 9, known outside the spec: 29B1h. -/
theorem test_crc :
    crcOf (bytesBits (bytes [49, 50, 51, 52, 53, 54, 55, 56, 57])) = 0x29B1#16 := by decide +kernel

/-- The strongest answer read (R9). -/
theorem test_slot :
    slotAnswer ⟨true, true, true⟩ = .refuse ∧ slotAnswer ⟨true, true, false⟩ = .defer ∧
    slotAnswer ⟨true, false, false⟩ = .accept ∧ slotAnswer ⟨false, false, false⟩ = .none := by decide

/-- The bits an answer drives: one, two, three; and the slot of two receivers (R9). -/
theorem test_slot_driven :
    Answer.accept.slotBits = ⟨true, false, false⟩ ∧ Answer.defer.slotBits = ⟨true, true, false⟩ ∧
    Answer.refuse.slotBits = ⟨true, true, true⟩ ∧
    slotAnswer (slotOf [.accept, .refuse]) = .refuse := by decide

/-- A stronger frame queued later stands before a weaker one waiting (R7). -/
theorem test_queue_order :
    (enqueue .tracker allTarget (.admitted 7) (enqueue .allotment allTarget (.heatDemand 1 2 3 4)
      run)).link.queue.map (·.key) = [5, 12] := by decide

/-- A frame with a wrong CRC is counted (R4). -/
theorem test_bad_frame :
    (after (.badFrame ⟨5, 3, 31, 2, bytes [1, 2], 0, true⟩) run).link.badCount = 1 := by
  decide +kernel

/-- A STATUS byte outside its encoding is read as R206 says: highest level 9 is NONE. -/
theorem test_status_reading :
    (statusBody (bytes [3, 1, 1, 255, 255, 255, 0, 0, 0, 0, 9, 200, 255, 255, 0, 0, 0, 0, 0, 0, 0, 0,
      2])).highest = none ∧
    (statusBody (bytes [3, 1, 1, 255, 255, 255, 0, 0, 0, 0, 9, 200, 255, 255, 0, 0, 0, 0, 0, 0, 0, 0,
      2])).requiredFlow = 2000 := by decide +kernel

/-! ### Start-up: 02 -/

theorem test_strap_two_samples :
    (after (.strapSample 2) (after (.strapSample 2) State.reset)).loader.number = some 2 := by decide
theorem test_strap_unequal :
    (after (.strapSample 3) (after (.strapSample 2) State.reset)).loader.number = none := by decide

/-- The register run over bits with its value forced to a numeral at each bit, which the kernel needs to
evaluate a long run. -/
def crcRun : List Bool → Nat → Nat
  | [], n => n
  | b :: bs, n =>
    match (crcBit (BitVec.ofNat 16 n) b).toNat with
    | 0 => crcRun bs 0
    | m + 1 => crcRun bs (m + 1)

theorem crcRun_eq (bs : List Bool) : ∀ r : BitVec 16, crcRun bs r.toNat = (bs.foldl crcBit r).toNat := by
  induction bs with
  | nil => intro r; rfl
  | cons b bs ih =>
    intro r
    have h : crcRun (b :: bs) r.toNat = crcRun bs (crcBit (BitVec.ofNat 16 r.toNat) b).toNat := by
      rw [crcRun]
      generalize (crcBit (BitVec.ofNat 16 r.toNat) b).toNat = k
      cases k <;> rfl
    rw [h, ih]
    simp

/-- The CRC that the generator program formed outside Lean stands in the trailer. -/
theorem test_image_crc : crcOf (bytesBits (imageBytes.take 464)) = 0xD7DB := by
  have h : crcRun (bytesBits (imageBytes.take 464)) 65535 = 0xD7DB := by decide +kernel
  apply BitVec.eq_of_toNat_eq
  rw [crcOf, ← crcRun_eq]
  exact h

/-- The image is read whole from the memory and passes its CRC (R20). -/
theorem image_read : readImage imageBytes [] = some imageBytes := by
  have h1 : readCopy imageBytes = some imageBytes := by decide +kernel
  have h2 : crcOk imageBytes = true := by
    have e : crcOk imageBytes = (crcOf (bytesBits (imageBytes.take (imageBytes.length - 2))) ==
        BitVec.ofNat 16 (field imageBytes (imageBytes.length - 2) 2)) := rfl
    have l : imageBytes.length - 2 = 464 := by decide +kernel
    rw [e, l, test_image_crc]
    decide +kernel
  simp [readImage, h1, h2]

/-- The image passes every check for station 2. -/
theorem test_image_ok : (judgeImage 2 (readImage imageBytes [])).2 = true := by
  rw [image_read]; decide +kernel

/-! ### Position: 03 -/

/-- The table of 3.2: a due position across the wrap. -/
theorem test_reached_across_wrap :
    reached 16777100 200 = false ∧ ahead 16777100 200 = 316 ∧ reached 0 200 = false ∧
    reached 199 200 = false ∧ reached 200 200 = true := by decide

/-- A station with a counter and a tally. -/
def travelled (c : Pos) (tally : Nat) : State := { run with pos := { run.pos with counter := c, tally := tally } }

/-- 3.1: a forward pulse pays back the tally, and with the tally 0 it advances the counter. -/
theorem test_forward_pays_back :
    (after (.encoderPulse true) (travelled 50000 30)).pos.tally = 29 ∧
    (after (.encoderPulse true) (travelled 50000 30)).pos.counter = 50000 := by decide +kernel
theorem test_forward_advances :
    (after (.encoderPulse true) (travelled 16777215 0)).pos.counter = 0 := by decide +kernel
/-- The fiftieth reverse pulse makes REVERSE TRAVEL appear (R32). -/
theorem test_reverse_travel :
    (after (.encoderPulse false) (travelled 50000 49)).alarm.standing 36 = true ∧
    (after (.encoderPulse false) (travelled 50000 48)).alarm.standing 36 = false := by decide +kernel

/-- 3.3: the edge first seen at 100,005 is taken at 100,025 and not before. -/
theorem test_debounce :
    (⟨false, some 100005⟩ : SensorState).edge .entry 100024 20 = [] ∧
    (⟨false, some 100005⟩ : SensorState).edge .entry 100025 20 = [⟨.entry, true, 100005⟩] := by decide

/-! ### Boards: 04 -/

/-- The body of a BOARD NOTICE: tag, product, length. -/
def noticeBody : List Nat := [1, 156, 0, 0, 9, 0, 7, 208]

theorem test_notice :
    (after (.boardNotice (toAll 0 noticeBody)) run).board.expected.map (fun e => (e.tag, e.product, e.length))
      = [(412, some 9, 2000)] := by decide +kernel
theorem test_notice_local_tag :
    (after (.boardNotice (toAll 0 [255, 0, 0, 0, 9, 0, 7, 208])) run).link.answer = .refuse := by
  decide +kernel

/-- A record of a board. -/
def board (t : Tag) (st : RecordState) : BoardRecord :=
  ⟨t, some 9, false, 2000, none, none, st, .default, none, [], false⟩

/-- The station with records. -/
def withBoards (q : List BoardRecord) : State := { run with board := { run.board with queue := q } }

/-- 3.4: the leading edge of board 412 at 100,000 inserts its events by due position. -/
theorem test_entry_edge_events :
    let s := { withBoards [board 412 .inbound] with
      pos := { run.pos with counter := 100020, schedule := [⟨412, .arrivalDeadline, 0, 100400⟩] }
      loader := { run.loader with image := some { img with
        functions := ⟨false, true, true, false, false, false⟩
        fluxPage := ⟨7, 30, 30, 200, 50, 12, 20⟩ } } }
    (entryLeading 100000 s).pos.schedule.map (fun e => (e.kind, e.qualifier, e.due.toNat)) =
      [(.arrivalDeadline, 0, 100400), (.zoneEnter, 0, 100500), (.fluxStart, 0, 101230),
       (.zoneEnter, 1, 102500), (.exitDeadline, 0, 106300)] := by decide +kernel

/-- A stray takes the first local tag (R61). -/
theorem test_stray_tag : nextLocal 65535 [] = 65280 ∧ nextLocal 65280 [] = 65281 := by
  decide +kernel

/-! ### Recipes: 05 -/

/-- A HEAT page in the body of RECIPE PAGE: product 9, kind 1, revision 3, every setpoint 1500. -/
def heatPageBody : List Nat :=
  [0, 0, 9, 1, 0, 3] ++ (List.replicate 33 [5, 220]).flatten

theorem test_page_kind : (recipePageBody (bytes heatPageBody)).map Page.kind = some .heat := by
  decide +kernel
theorem test_page_out_of_range :
    recipePageBody (bytes ([0, 0, 9, 1, 0, 3] ++ (List.replicate 33 [15, 161]).flatten)) = none := by
  decide +kernel

/-! ### Heat: 06 and 07 -/

/-- A channel in REGULATING as the example of 7.7 has it. -/
def piChannel : Channel :=
  { Channel.cold (img.channel 0) with
    mode := .regulating, setpoint := 1500, measured := 1472, lastGood := true, iacc := 128000 }

/-- 7.7: a PI sample against a cap of 30 on a rating of 60. -/
theorem test_pi_sample :
    let d := piChannel.regulate { img.channel 0 with rated := 60 } 30 false false
    d.iacc = 128336 ∧ d.uc = 613 ∧ d.duty = 500 ∧ d.limUp = true ∧ d.limited = 1 := by decide +kernel

/-- 7.7: class 1 with 204 units for the demands 120, 60 and 80, and the caps of station 2. -/
theorem test_grants :
    grants 204 [120, 60, 80] = [94, 47, 62] ∧ grants 300 [0, 96, 0] = [0, 96, 0] ∧
    capOf 94 70 120 = 54 ∧ capOf 94 50 120 = 39 := by decide

/-- 6.8: firing at 375 per-mille over eight cycles. -/
theorem test_firing :
    let c := { piChannel with duty := 375 }
    ((List.range 8).map fun n => (repeated Channel.fireCycle (n + 1) c).firing) =
      [false, false, true, false, false, true, false, true] ∧
    (repeated Channel.fireCycle 8 c).acc = 0 := by decide +kernel

/-- 6.5: SETTLED is left at 2548 for a setpoint of 2600, and HELD then stays 0. -/
theorem test_settle_loss :
    let c := { piChannel with setpoint := 2600, measured := 2548, det := ⟨.settled, 0⟩, heldFlag := true,
                              armed := false }
    (c.settle img.heatDet).det = ⟨.unsettled, 0⟩ ∧ (c.settle img.heatDet).heldFlag = false := by
  decide +kernel

/-- The station regulating on channel 2, its POT channel, with the limit 2900 of the example in 6.3. -/
def hotPot (v : Int) : State :=
  modChannel 2 (fun _ => { piChannel with measured := v, setpoint := 2600 }) run

/-- 6.3: a good sample of 2903 trips the channel, one of 2896 does not. -/
theorem test_trip :
    let tc (v : Int) := List.replicate 8 (Reading.value v)
    ((channel (after (.heatSample (tc 2903)) (hotPot 2890)) 2).map (·.mode)) = some .tripped ∧
    ((channel (after (.heatSample (tc 2896)) (hotPot 2890)) 2).map (·.mode)) = some .regulating := by
  decide +kernel

/-! ### Flux: 08 -/

/-- The series of board 530 at metering, with the delivered volume. -/
def series530 (v : Nat) : Series := ⟨530, some 200, 0x26, 50, 12, 20, none, 10, v⟩

/-- 8.8: 300 is enough for 10 strokes of 3 nozzles of 12, 280 is not. -/
theorem test_starved : (series530 300).starved = false ∧ (series530 280).starved = true := by
  decide +kernel

/-- The station draining the series of board 530. -/
def draining530 (v : Nat) : State :=
  { withBoards [board 530 .inside] with flux := { run.flux with series := some (series530 v) } }

theorem test_metering :
    (after .drainTimerExpiry (draining530 300)).board.queue.map (·.volume) = [some 300] ∧
    (after .drainTimerExpiry (draining530 300)).flux.series = none := by decide +kernel

/-! ### Pot and extraction: 09 and 10 -/

/-- 9.4: with the run flag set 590 is below feed-off and feeds, 603 is not and clears the flag. -/
theorem test_feed_wanted :
    let s (v : Nat) := { run with pot := { run.pot with avg := some v, feedRun := true } }
    feedWanted (s 590) = true ∧ feedWanted (s 603) = false ∧
    (judgeFeed (s 603)).pot.feedRun = false ∧
    feedWanted { s 590 with pot := { (s 590).pot with feedRun := false } } = false := by decide +kernel

/-- 9.3: the level state of a quiet average. -/
theorem test_level_state :
    levelOfAverage img.pot 620 = .high ∧ levelOfAverage img.pot 619 = .normal ∧
    levelOfAverage img.pot 559 = .low ∧ levelOfAverage img.pot 519 = .lowLow := by decide

/-- 10.4: the references for flow sums of 890 and 760. -/
theorem test_fan_curve : curveReference 890 curve = 591 ∧ curveReference 760 curve = 542 := by decide

/-! ### Alarms: 11 -/

/-- 11.7: a list whose lowest entries are those of the example. -/
def fullList : List LineEntry :=
  (List.range 27).map (fun n => ⟨n % 16, 60 + n, 5, false, false⟩) ++
    [⟨3, 24, 3, true, false⟩, ⟨6, 54, 3, false, false⟩, ⟨2, 40, 2, true, false⟩, ⟨5, 50, 2, false, false⟩,
     ⟨7, 55, 1, false, false⟩]

/-- 11.7: three RAISE frames into a full list. -/
theorem test_full_list :
    let a0 := { AlarmUnit.cold with list := fullList }
    let a1 := a0.enter ⟨8, 45, 4, false, false⟩
    let a2 := a1.enter ⟨1, 46, 2, false, false⟩
    let a3 := a2.enter ⟨4, 50, 2, false, false⟩
    a1.incomplete = true ∧
    (a1.list.drop 28).map (fun e => (e.origin, e.code)) = [(3, 24), (6, 54), (5, 50), (7, 55)] ∧
    (a2.list.drop 28).map (fun e => (e.origin, e.code)) = [(6, 54), (5, 50), (1, 46), (7, 55)] ∧
    (a3.list.drop 28).map (fun e => (e.origin, e.code)) = [(6, 54), (5, 50), (1, 46), (4, 50)] := by
  decide +kernel

/-- 11.2: LEVEL LOW, of the level of the pending SETTLE LOST, stays requested; EXTRACTION LOST does not. -/
theorem test_nesting :
    let a := ((AlarmUnit.cold.move 25 (.pending false)).move 43 .request)
    pickRequest img a = none ∧ pickRequest img (a.move 49 .request) = some 49 := by decide +kernel

/-- A press acknowledges the first PENDING entry of the list (R201). -/
theorem test_ack_button :
    let s := { run with alarm := { run.alarm with list := [⟨3, 24, 3, false, false⟩] } }
    (after .ackButtonPress s).alarm.list.filter (fun e => e.origin == 3) =
      [⟨3, 24, 3, true, false⟩] := by decide +kernel

/-! ### Witnesses: every statement's hypotheses are met by a concrete state and operands -/

/-- A frame entry of the transmit queue. -/
def entry (b : Body) (inTx : Bool) : TxEntry := ⟨b, allTarget, .alarms, inTx, false⟩

/-- The station with a transmit queue. -/
def withQueue (q : List TxEntry) : State := { run with link := { run.link with queue := q } }

/-- StepRunsTheFront: a command waits; none waits. -/
theorem wit_StepRunsTheFront :
    ({ run with pending := [.zeroCross, .statusPeriod] } : State).pending = .zeroCross :: [.statusPeriod] ∧
    run.pending = [] := by decide +kernel

/-- The station held in reset with the supply at a level. -/
def heldAt (mv : Nat) : State := { inState .inReset with pins := { run.pins with supply := mv } }

/-- ResetCommandsGiveColdBlocks: supplies and pulses at and around their limits, and a station held in
reset. -/
theorem wit_ResetCommandsGiveColdBlocks :
    (∃ cause mv, cause = ResetCause.supplyApplied mv ∨ (cause = ResetCause.supplyLow mv ∧ mv < 2900)) ∧
    (∃ cause, cause = ResetCause.supplyLow 2899 ∧ 2899 < 2900) ∧ 2900 ≤ 2900 ∧
    10000 ≤ 10000 ∧ 999 < 1000 ∧ (1000 ≤ 1000 ∧ 1000 < 10000) ∧ (1000 ≤ 9999 ∧ 9999 < 10000) ∧
    ((heldAt 2900).loader.station = .inReset ∧ 2900 ≤ (heldAt 2900).pins.supply) ∧
    (heldAt 2899).pins.supply < 2900 ∧ run.loader.station ≠ .inReset :=
  ⟨⟨_, 0, .inl rfl⟩, ⟨_, rfl, by decide⟩, by decide⟩

/-- LOADING with station number 2. -/
def loadingTwo : State :=
  { State.reset with loader := { State.reset.loader with number := some 2, strapPrev := some 2 } }

/-- LoadingEnds: LOADING without a number; another state; an image that passes every check, and an absent
memory, which fails one. -/
theorem wit_LoadingEnds :
    (State.reset.loader.station = .loading ∧ State.reset.loader.number = none) ∧
    (run.loader.station ≠ .loading ∨ run.loader.number ≠ none) ∧
    (loadingTwo.loader.station = .loading ∧ loadingTwo.loader.number = some 2 ∧
      loadingTwo.link.queue.length < 12) ∧
    (∃ i, judgeImage 2 (readImage imageBytes []) = (some i, true)) ∧
    (judgeImage 2 (readImage [] [])).2 = false := by
  refine ⟨by decide +kernel, by decide +kernel, by decide +kernel, ⟨imageOf imageBytes, ?_⟩,
    by decide +kernel⟩
  have h := test_image_ok
  rw [image_read] at h ⊢
  exact Prod.ext rfl h

/-- StatusFramesQueued: the queue empty, with 11 frames, and with a STATUS waiting that has its start mark
clear; one that has it set, behind one in transmission. -/
theorem wit_StatusFramesQueued :
    let s := inState .configFault
    let full := { s with link := { s.link with queue := List.replicate 11 (entry (.admitted 1) false) } }
    (s.loader.station = .configFault ∧ s.link.queue.length < 12) ∧
    (full.loader.station = .configFault ∧ full.link.queue.length < 12) ∧
    (∀ x ∈ s.link.queue, ∀ g, x.body = .status g → g.startMark = false) ∧
    (∀ x ∈ [entry (.status (gatherStatus false run)) false], ∀ g, x.body = .status g →
      g.startMark = false) ∧
    run.link.queue.length < 12 ∧
    (let x := entry (.status (gatherStatus true run)) false
     let pre := [entry (.status (gatherStatus false run)) true]
     (withQueue (pre ++ x :: [])).link.queue = pre ++ x :: [] ∧ x.inTx = false ∧
       (∀ y ∈ pre, y.inTx = true ∨ y.key ≠ x.key) ∧ (gatherStatus true run).startMark = true) := by
  intro s full
  refine ⟨by decide +kernel, by decide +kernel, fun x h => (List.not_mem_nil h).elim,
    fun x h g hg => ?_, by decide +kernel, by decide +kernel⟩
  rw [List.mem_singleton.mp h] at hg
  cases hg
  rfl

/-- Eleven frames of ADMITTED and one more. -/
def elevenAnd (e : TxEntry) : List TxEntry := List.replicate 11 (entry (.admitted 1) false) ++ [e]

/-- FramesTakeTheirPlace: a queue in key order; a HEAT DEMAND that replaces the waiting one, with another in
transmission; one that finds none waiting; a full queue that gives up its weakest and one that does not; a
dropped SNAPSHOT REPORT and a dropped BOARD OFFER. -/
theorem wit_FramesTakeTheirPlace :
    let d := entry (.heatDemand 1 2 3 4)
    let v : Snapshot := ⟨17, 0, [], [], none, none⟩
    (elevenAnd (d false)).Pairwise (fun x y => x.key ≤ y.key) ∧
    ((d false).body.replaces = true ∧ (d false).inTx = false ∧
      (d false).key = (entry (.heatDemand 5 6 7 8) false).key ∧
      ∀ y ∈ [d true], y.inTx = true ∨ y.key ≠ (d false).key) ∧
    ((entry (.admitted 2) false).body.replaces = false ∧ (elevenAnd (d false)).length = 12 ∧
      (List.replicate 11 (entry (.admitted 1) false)).length < 12 ∧
      (∀ x ∈ [d true], x.inTx = true ∨ x.key ≠ (d false).key) ∧
      [d true].Pairwise (fun x y => x.key ≤ y.key)) ∧
    (12 ≤ (List.replicate 11 (entry (.admitted 1) false) ++ d false :: []).length ∧
      (d false).inTx = false ∧
      (∀ y ∈ List.replicate 11 (entry (.admitted 1) false), y.inTx = true ∨ y.key ≤ (d false).key) ∧
      (entry (.admitted 2) false).key < (d false).key ∧
      ¬(entry (.snapshotReport v) false).key < (d false).key) ∧
    ((placeFrame [] (d false)).2 = none ∧
      (placeFrame (elevenAnd (entry (.snapshotReport v) false)) (entry (.admitted 2) false)).2.map (·.body)
        = some (.snapshotReport v) ∧
      (placeFrame (List.replicate 12 (entry (.boardOffer (board 412 .inside) .resolved) false))
        (entry (.alarmAck 3 none) false)).2.map (·.body)
        = some (.boardOffer (board 412 .inside) .resolved)) := by decide +kernel

/-- FramesStartAndReturnToWaiting: a queue with none in transmission; a frame in transmission alone; a
HEAT DEMAND in transmission with a later one waiting. -/
theorem wit_FramesStartAndReturnToWaiting :
    (∀ x ∈ (withQueue [entry (.admitted 1) false, entry (.heatDemand 1 2 3 4) false]).link.queue,
      x.inTx = false) ∧
    (let q := [entry (.alarmClear 3 false) false] ++ entry (.admitted 1) true :: [entry (.heatDemand 1 2 3 4) false]
     (withQueue q).link.queue = q ∧ (entry (.admitted 1) true).inTx = true ∧
     (entry (.admitted 1) true).orphan = false ∧
     (∀ x ∈ [entry (.alarmClear 3 false) false] ++ [entry (.heatDemand 1 2 3 4) false], x.inTx = false) ∧
     (entry (.admitted 1) true).body.replaces = false) ∧
    (let e := entry (.heatDemand 1 2 3 4) true
     let l := entry (.heatDemand 5 6 7 8) false
     (withQueue ([entry (.admitted 1) false] ++ e :: l :: [])).link.queue =
       [entry (.admitted 1) false] ++ e :: l :: [] ∧
     e.inTx = true ∧ e.orphan = false ∧ e.body.replaces = true ∧ l.inTx = false ∧ l.key = e.key ∧
     ∀ x ∈ [entry (.admitted 1) false] ++ [], x.inTx = false ∧ x.key ≠ e.key) := by decide +kernel

/-- AnswerActsOnIsolation: a frame in transmission of no interest, an offer, a report, and one left over
from a warm restart. -/
theorem wit_AnswerActsOnIsolation :
    (∀ e ∈ [entry (.admitted 1) true, entry (.boardOffer (board 412 .inside) .resolved) true,
        entry (.snapshotReport ⟨17, 0, [], [], none, none⟩) true,
        { entry (.admitted 1) true with orphan := true }],
      (withQueue [e]).active = true ∧ (withQueue [e]).link.queue.find? (·.inTx) = some e) ∧
    (entry (.boardOffer (board 412 .inside) .resolved) true).orphan = false ∧
    (entry (.snapshotReport ⟨17, 0, [], [], none, none⟩) true).orphan = false := by decide +kernel

/-- The station with an exit-bound record. -/
def bound (seen : Bool) : State :=
  { run with board := { run.board with
      queue := [board 412 .inside, board 413 .entering], handoff := ⟨some 412, true, seen, none⟩ } }

/-- OfferAnswerActsOnTheRecord: the exit trailing edge not seen; seen; an answer for another board. -/
theorem wit_OfferAnswerActsOnTheRecord :
    ((bound false).board.handoff.bound = some 412 ∧
      findRecord 412 (bound false).board.queue = some (board 412 .inside) ∧
      (bound false).board.handoff.trailSeen = false) ∧
    ((bound true).board.handoff.bound = some 412 ∧
      findRecord 412 (bound true).board.queue = some (board 412 .inside) ∧
      (bound true).board.handoff.trailSeen = true ∧ (bound true).alarm.place.length = 64) ∧
    (bound false).board.handoff.bound ≠ some 413 := by decide +kernel

/-- RemovedRecordLeavesNothing: the exit-bound record of a HOOD station; a record that is not bound;
the series of a removed board; a reference to an entry, LIVE and RETIRED, the last one and not. -/
theorem wit_RemovedRecordLeavesNothing :
    findRecord 412 (bound false).board.queue = some (board 412 .inside) ∧
    findRecord 413 (bound false).board.queue = some (board 413 .entering) ∧
    (bound false).board.handoff.bound ≠ some 413 ∧ (bound false).cfg.functions.hood = true ∧
    (findRecord 530 (draining530 300).board.queue).isSome = true ∧
    (removeRecord 530 (draining530 300)).flux.series = some (series530 300) ∧
    (∀ n ∈ [1, 2], ∀ live ∈ [true, false],
      let e : DirEntry := ⟨9, live, .complete, none, none, none, true, n, none⟩
      let s := { bound false with
        board := { (bound false).board with queue := [{ board 412 .inside with ref := .entry 31 }] }
        recipe := run.recipe.setEntry 31 (some e) }
      findRecord 412 s.board.queue = some { board 412 .inside with ref := .entry 31 } ∧
        s.recipe.entry 31 = some e) := by decide +kernel

/-- FramesNotActedOn: a frame with a wrong CRC; a valid frame of station 2; each of the reasons for which a frame is not taken, and both commands. -/
theorem wit_FramesNotActedOn :
    (run.active = true ∧ frameCheck ⟨5, 3, 31, 2, bytes [1, 2], 0, true⟩ = none) ∧
    (run.active = true ∧ Kind.admitted.lengthOk (toAll 2 [1, 2]).body.length = true ∧
      (toAll 2 [1, 2]).src.toNat = run.me ∧ run.alarm.place.length = 64) ∧
    run.active = true ∧
    (Kind.snapshot.lengthOk (toAll 3 [1]).body.length = true ∧ (toAll 3 [1]).src.toNat ≠ run.me ∧
      Kind.snapshot.panelOnly = true ∧ (toAll 3 [1]).src.toNat ≠ run.cfg.panel) ∧
    (Kind.admitted.lengthOk (toMe 3 [1, 2]).body.length = true ∧ Kind.admitted.form = .all ∧
      (toMe 3 [1, 2]).target ≠ allTarget ∧ (toMe 3 [1, 2]).src.toNat ≠ run.me) ∧
    (Kind.restart.lengthOk (⟨0, 5, []⟩ : Rx).body.length = true ∧ Kind.restart.form = .one ∧
      (⟨0, 5, []⟩ : Rx).target ≠ toStation run.me ∧ (⟨0, 5, []⟩ : Rx).src.toNat ≠ run.me) ∧
    (Kind.recipeRequest.lengthOk (toAll 3 [0, 0, 9, 1]).body.length = true ∧
      Kind.recipeRequest.form = .panel ∧ (toAll 3 [0, 0, 9, 1]).src.toNat ≠ run.me) ∧
    (Kind.recipePage.lengthOk (⟨0, 16, bytes [0, 0, 9, 3, 0, 1, 1, 2, 1]⟩ : Rx).body.length = true ∧
      Kind.recipePage.form = .allOrOne ∧ (16#5 : BitVec 5) ≠ allTarget ∧ 16 ≤ (16#5 : BitVec 5).toNat ∧
      (0#4 : BitVec 4).toNat ≠ run.me) := by decide +kernel

/-- AlarmFramesApplied: a raise that is refused for its code and one that is taken, an acknowledgement of
each form, a clear. -/
theorem wit_AlarmFramesApplied :
    heardByAll .alarmRaise (toAll 3 [58, 6, 1, 0]) run ∧ heardByAll .alarmRaise (toAll 3 [57, 6, 1, 0]) run ∧
    heardByAll .alarmAck (toAll 0 [3, 63]) run ∧ heardByAll .alarmAck (toAll 0 [3, 57]) run ∧
    heardByAll .alarmAck (toAll 0 [3]) run ∧ heardByAll .alarmClear (toAll 3 [57, 1]) run ∧
    alarmLevel 57 = some 6 := by unfold heardByAll; decide +kernel

/-- The station with a code at a place. -/
def withCode (c : Nat) (p : Place) (flag : Bool) : State :=
  { run with alarm := (run.alarm.move c p).setFlag c flag }

/-- AcknowledgementMovesTheCode: a LIVE code, with and without its gone mark; a latched code of each
recovery; an OVERTEMP; a code that is not pending; a list whose first PENDING entry of an origin is not its
first entry, for the own and another origin; the own pending code, without a list entry. -/
theorem wit_AcknowledgementMovesTheCode :
    (43 < (withCode 43 (.pending false) true).alarm.place.length ∧
      (withCode 43 (.pending false) true).alarm.at 43 = .pending false ∧ alarmLive 43 = true) ∧
    ((withCode 43 (.pending true) false).alarm.at 43 = .pending true) ∧
    ((withCode 57 (.pending false) false).alarm.at 57 = .pending false ∧ alarmLive 57 = false ∧
      alarmRecovery 57 = .atOnce) ∧
    ((withCode 12 (.pending false) false).alarm.at 12 = .pending false ∧ alarmLive 12 = false ∧
      alarmRecovery 12 = .resetOnly) ∧
    ((withCode 25 (.pending false) true).alarm.at 25 = .pending false ∧ alarmLive 25 = false ∧
      alarmRecovery 25 = .condition ∧ ¬(18 ≤ 25 ∧ 25 ≤ 23) ∧
      (withCode 25 (.pending false) true).alarm.flag 25 = true) ∧
    ((withCode 20 (.pending false) true).alarm.at 20 = .pending false ∧
      (channel (withCode 20 (.pending false) true) 2).isSome = true ∧
      20 < (withCode 20 (.pending false) true).alarm.place.length) ∧
    (∀ o ∈ [2, 3], let e : LineEntry := ⟨o, 24, 3, false, false⟩
     let pre : List LineEntry := [⟨o, 25, 3, true, false⟩, ⟨5, 26, 3, false, false⟩]
     let post : List LineEntry := [⟨o, 45, 2, false, false⟩]
     e.origin = o ∧ e.inService = false ∧ (∀ x ∈ pre, x.origin = o → x.inService = true) ∧
       (∀ x ∈ pre ++ post, x.origin = o → x.code ≠ e.code) ∧
       (pre ++ e :: post).Pairwise (fun x y => y.level ≤ x.level)) ∧
    (2 = run.me ∧ 25 < 64 ∧ (withCode 25 (.pending false) true).alarm.at 25 = .pending false ∧
      ∀ e ∈ (withCode 25 (.pending false) true).alarm.list, e.origin = 2 → e.inService = true) ∧
    (∀ d ∈ List.range 64, d ≠ 25 → (withCode 25 (.pending false) true).alarm.at d = .idle) ∧
    (∀ c ∈ List.range 64, run.alarm.at c = .idle) ∧
    (∀ g, run.alarm.at 25 ≠ .pending g) := by
  repeat' apply And.intro
  all_goals first
    | decide +kernel
    | (intro g; cases g <;> decide +kernel)

/-- A full list without an IN-SERVICE entry, its last entry gone or not. -/
def fullPending (gone : Bool) : List LineEntry :=
  (List.range 31).map (fun n => ⟨n % 16, 60 + n, 5, false, false⟩) ++ [⟨7, 55, 1, false, gone⟩]

/-- LineListTakesAnAnnouncement: an empty list, a listed entry, a full list with an IN-SERVICE entry that
it displaces, and full lists of PENDING entries. -/
theorem wit_LineListTakesAnAnnouncement :
    (AlarmUnit.cold.list.length ≤ 32 ∧ AlarmUnit.cold.list.length < 32 ∧
      AlarmUnit.cold.list.any (LineEntry.is 3 24) = false) ∧
    (fullList.length = 32 ∧ fullList.any (LineEntry.is 3 24) = true) ∧
    (fullList.any (LineEntry.is 8 45) = false ∧ fullList.Pairwise (fun x y => y.level ≤ x.level)) ∧
    (let x : LineEntry := ⟨2, 40, 2, true, false⟩
     fullList = fullList.take 29 ++ x :: fullList.drop 30 ∧ x.inService = true ∧
       (∀ y ∈ fullList, y.inService = true → x.level ≤ y.level) ∧
       ∀ y ∈ fullList.drop 30, y.inService = true → x.level < y.level) ∧
    (∀ g ∈ [true, false], let x : LineEntry := ⟨7, 55, 1, false, g⟩
     let l := fullPending g
     l.length = 32 ∧ l.Pairwise (fun x y => y.level ≤ x.level) ∧ l = l.take 31 ++ x :: [] ∧
       (∀ y ∈ l, y.inService = false ∧ x.level ≤ y.level) ∧ x.level < 4 ∧
       (x.gone = true ∨ ∀ y ∈ l, y.level = x.level → y.gone = false) ∧
       (∀ y ∈ l, y.inService = false ∧ 1 ≤ y.level) ∧
       l.any (LineEntry.is 8 45) = false) := by
  decide +kernel

/-- The station with expected entries. -/
def withExpected (l : List Expected) : State := { run with board := { run.board with expected := l } }

/-- An expected entry. -/
def expected (t : Tag) : Expected := ⟨t, none, 2000, false, .default⟩

/-- A STATUS of an ENTRY station as it was heard. -/
def heard (entry : Bool) : Peer := ⟨statusBody (bytes (3 :: (if entry then 1 else 0) :: List.replicate 21 0)), 0⟩

/-- The station having heard station 3. -/
def hearing (entry : Bool) : State :=
  { run with link := { run.link with peers := run.link.peers.set 3 (some (heard entry)) } }

/-- ExpectedListFollowsFrames: a notice of a tag at the limit of the local tags, of one below it and with a
full list; a withdrawal of a listed and an unlisted tag, an exit, an ADMITTED of the
ENTRY station, of another, and of one never heard. -/
theorem wit_ExpectedListFollowsFrames :
    panelToAll .boardNotice (toAll 0 [255, 0, 0, 0, 9, 0, 7, 208]) run ∧
    panelToAll .boardNotice (toAll 0 [254, 255, 0, 0, 9, 0, 7, 208]) run ∧
    field (toAll 0 [255, 0, 0, 0, 9, 0, 7, 208]).body 0 2 = 65280 ∧
    panelToAll .boardNotice (toAll 0 noticeBody) (withExpected ((List.range 16).map expected)) ∧
    16 ≤ (withExpected ((List.range 16).map expected)).board.expected.length ∧
    (panelToAll .boardWithdraw (toAll 0 [1, 156]) (withExpected [expected 412]) ∧
      ∃ e ∈ (withExpected [expected 412]).board.expected, e.tag = 412) ∧
    panelToAll .boardWithdraw (toAll 0 [1, 156]) run ∧
    heardByAll .boardExit (toAll 3 (List.replicate 30 0)) (withExpected [expected 0]) ∧
    (heardByAll .admitted (toAll 3 [1, 156]) (hearing true) ∧
      (peer (hearing true) 3).map (·.status.functions.entry) = some true) ∧
    (heardByAll .admitted (toAll 3 [1, 156]) (hearing false) ∧
      (peer (hearing false) 3).map (·.status.functions.entry) = some false) ∧
    peer run 3 = none := by unfold panelToAll heardByAll; decide +kernel

/-- A BOARD OFFER from station 4, the upstream station. -/
def offer : Rx := ⟨4, 2, offerBytes (board 412 .inside) .resolved⟩

/-- The station with n entries of the schedule, none due. -/
def scheduled (n : Nat) (s : State) : State :=
  { s with pos := { s.pos with schedule := (List.range n).map fun k => ⟨k, .zoneEnter, 0, 10⟩ } }

/-- BoardOfferAnswered: from upstream in RUNNING with 47 entries in the schedule, in JOINING, with 8
records, and not from upstream. -/
theorem wit_BoardOfferAnswered :
    aimedHere .boardOffer offer run ∧ run.cfg.upstream = some offer.src.toNat ∧
    aimedHere .boardOffer offer (inState .joining) ∧
    aimedHere .boardOffer offer (withBoards ((List.range 8).map fun n => board n .inside)) ∧
    aimedHere .boardOffer { offer with src := 5 } run ∧
    (aimedHere .boardOffer offer (scheduled 47 run) ∧
      (after (.boardOffer offer) (scheduled 47 run)).link.answer = .accept ∧
      (∀ e ∈ (scheduled 47 run).pos.schedule, reached (scheduled 47 run).pos.counter e.due = false) ∧
      (scheduled 47 run).board.handoff.bound ≠ some (field offer.body 0 2) ∧
      0 < run.cfg.geometry.gap + run.cfg.geometry.arrivalTol ∧
      run.cfg.geometry.gap + run.cfg.geometry.arrivalTol < 8388608 ∧
      (scheduled 47 run).pos.schedule.length < 48) := by unfold aimedHere; decide +kernel

/-- A FETCHING entry of product 9 that lacks its WAVE page alone. -/
def lacking : DirEntry := ⟨9, true, .fetching, some ⟨0, 1⟩, some ⟨1, 1⟩, none, true, 2, some 700⟩

/-- The station with that entry as directory entry 31. -/
def fetching : State :=
  let st := (run.recipe.writeSlot 0 (.heat img.heatPage)).writeSlot 1 (.flux img.fluxPage)
  { run with recipe := st.setEntry 31 (some lacking) }

/-- A directory entry of a product, complete without pages. -/
def held (p : Nat) (count : Nat) (used : Bool) : DirEntry :=
  ⟨p, true, .complete, none, none, none, used, count, none⟩

/-- A full directory, in which entry 5 alone is unreferenced, its used bit as given. -/
def fullDir (used : Bool) : RecipeStore :=
  { RecipeStore.cold with
    dir := (List.range 32).map fun n => some (held n (if n == 5 then 0 else 1) (used || n != 5))
    hand := 31 }

/-- A full page store: every slot is held by one of the first 22 entries of a full directory, of which
entry 5 alone is unreferenced. -/
def fullSlots : RecipeStore :=
  { fullDir false with
    dir := (List.range 32).map fun n => some { held n (if n == 5 then 0 else 1) (n != 5) with
      heat := if n < 22 then some ⟨3 * n, 1⟩ else none
      flux := if n < 21 then some ⟨3 * n + 1, 1⟩ else none
      wave := if n < 21 then some ⟨3 * n + 2, 1⟩ else none }
    slots := List.replicate 64 (some (.wave ⟨1, 2, true⟩)) }

/-- RecipePageAnswered: contents out of range, the product NONE, a service product at its lowest code, a
page that is needed of the highest recipe product, one aimed at one station, and a kind not needed; a resident page of
a LIVE and of a RETIRED entry; a page without room. -/
theorem wit_RecipePageAnswered :
    let bad := toAll 0 ([0, 0, 9, 1, 0, 3] ++ (List.replicate 33 [15, 161]).flatten)
    let nobody := toAll 0 [255, 255, 255, 3, 0, 1, 120, 150, 1]
    let service := toAll 0 [15, 255, 240, 3, 0, 1, 120, 150, 1]
    let wave := toAll 0 [15, 255, 239, 3, 0, 1, 120, 150, 1]
    let aimed : Rx := { wave with target := 5 }
    let bare := { run with loader := { run.loader with image := some { img with functions :=
      ⟨false, false, false, false, false, false⟩ } } }
    (∀ s ∈ [run, bare], ∀ f ∈ [bad, nobody, service, wave, aimed], s.active = true ∧
      Kind.recipePage.lengthOk f.body.length = true ∧ f.src.toNat ≠ s.me ∧ f.src.toNat = s.cfg.panel ∧
      (f.target = allTarget ∨ f.target.toNat < 16)) ∧
    recipePageBody bad.body = none ∧
    ((recipePageBody nobody.body).map Page.kind = some .wave ∧ productAt nobody.body 0 = none) ∧
    ((recipePageBody service.body).map Page.kind = some .wave ∧
      productAt service.body 0 = some 1048560) ∧
    ((recipePageBody wave.body).map Page.kind = some .wave ∧
      productAt wave.body 0 = some 1048559 ∧ run.cfg.functions.needs .wave = true) ∧
    bare.cfg.functions.needs .wave = false ∧
    (fetching.recipe.entry 31 = some lacking ∧ 31 < fetching.recipe.dir.length ∧
      lacking.page (Page.heat img.heatPage).kind = some ⟨0, 1⟩ ∧ lacking.live = true ∧ 1 ≠ 2 ∧
      0 < fetching.recipe.slots.length) ∧
    (let e := { lacking with live := false }
     ({ run with recipe := run.recipe.setEntry 31 (some e) } : State).recipe.entry 31 = some e ∧
       e.page (Page.heat img.heatPage).kind = some ⟨0, 1⟩ ∧ e.live = false) ∧
    (fullSlots.entry 31 = some (held 31 1 true) ∧
      (held 31 1 true).page (Page.wave ⟨1, 2, true⟩).kind = none ∧
      ((fullSlots.setEntry 5 none).roomForPage 31).1 = none ∧ run.alarm.place.length = 64) := by decide +kernel

/-- FetchEnds: the last page of an entry, and an entry whose fetch timer runs. -/
theorem wit_FetchEnds :
    fetching.recipe.entry 31 = some lacking ∧ 31 < fetching.recipe.dir.length ∧
    lacking.page (Page.wave ⟨1, 2, true⟩).kind = none ∧
    fetching.cfg.functions.needs (Page.wave ⟨1, 2, true⟩).kind = true ∧
    (∀ k, k ≠ (Page.wave ⟨1, 2, true⟩).kind → lacking.missing fetching.cfg.functions k = false) ∧
    fetching.recipe.freeSlot = some 2 ∧ 2 < fetching.recipe.slots.length ∧
    (fetching.active = true ∧ fetching.recipe.entry 31 = some lacking ∧ lacking.fetch = .fetching ∧
      lacking.timer ≠ none) := by
  refine ⟨by decide +kernel, by decide +kernel, by decide +kernel, by decide +kernel, ?_,
    by decide +kernel, by decide +kernel, by decide +kernel⟩
  intro k; cases k <;> decide +kernel

/-- RecipeWithdrawRetires: a service code, a product without an entry, one with references, and one
without. -/
theorem wit_RecipeWithdrawRetires :
    (panelToAll .recipeWithdraw (toAll 0 [15, 255, 240]) run ∧
      productAt (toAll 0 [15, 255, 240]).body 0 = some 1048560) ∧
    (panelToAll .recipeWithdraw (toAll 0 [15, 255, 239]) run ∧
      productAt (toAll 0 [15, 255, 239]).body 0 = some 1048559 ∧ run.recipe.liveEntry 1048559 = none) ∧
    (panelToAll .recipeWithdraw (toAll 0 [0, 0, 9]) fetching ∧ productAt (toAll 0 [0, 0, 9]).body 0 = some 9 ∧
      fetching.recipe.liveEntry 9 = some 31 ∧ fetching.recipe.entry 31 = some lacking ∧
      0 < lacking.count) ∧
    (let e := { lacking with count := 0 }
     let s := { run with recipe := run.recipe.setEntry 31 (some e) }
     panelToAll .recipeWithdraw (toAll 0 [0, 0, 9]) s ∧ s.recipe.liveEntry 9 = some 31 ∧
       s.recipe.entry 31 = some e ∧ e.count = 0) := by unfold panelToAll heardByAll; decide +kernel

/-- StatusReplacesThePeer: a STATUS of another member, and of the covering station. -/
theorem wit_StatusReplacesThePeer :
    heardByAll .status (toAll 3 (List.replicate 23 1)) run ∧ run.cfg.member 3 = true ∧
    (let s := { run with loader := { run.loader with image := some { img with cover := 3 } } }
     heardByAll .status (toAll 3 (List.replicate 23 1)) s ∧
       (toAll 3 (List.replicate 23 1)).src.toNat = s.cfg.cover) := by
  unfold heardByAll; decide +kernel

/-- SnapshotLatchedOnce: none latched, and one latched; a used and an unused channel. -/
theorem wit_SnapshotLatchedOnce :
    (panelToAll .snapshot (toAll 0 [17]) run ∧ run.pos.snapshot = none) ∧
    (let s := { run with pos := { run.pos with snapshot := some ⟨17, 0, [], [], none, none⟩ } }
     panelToAll .snapshot (toAll 0 [18]) s ∧ s.pos.snapshot ≠ none) ∧
    ((run.cfg.channel 2).fn ≠ .unused ∧ (channel run 2).isSome = true ∧ (run.cfg.channel 5).fn = .unused) := by
  unfold panelToAll heardByAll; decide +kernel

/-- RestartBeginsJoiningAgain: the queue empty, and with a record. -/
theorem wit_RestartBeginsJoiningAgain :
    (aimedHere .restart (toMe 0 []) run ∧ (toMe 0 []).src.toNat = run.cfg.panel ∧ run.board.queue = [] ∧
      (run.link.queue.filter (·.inTx)).length < 12) ∧
    (aimedHere .restart (toMe 0 []) (bound false) ∧ (bound false).board.queue ≠ []) := by
  unfold aimedHere; decide +kernel

/-- The station with an expiry overtaken, and with one that waits. -/
def overtaken (x : OwnTimer) : State := { run with expiries := ⟨[], [x]⟩ }

/-- The station with an expiry that waits in the queue. -/
def awaiting (x : OwnTimer) : State := { run with expiries := ⟨[x], []⟩ }

/-- StatusPeriodAndStalePeers: an expiry in force, one overtaken, and a heard entry. -/
theorem wit_StatusPeriodAndStalePeers :
    (run.active = true ∧ OwnTimer.statusPeriod ∉ run.expiries.lapsed) ∧
    (OwnTimer.statusPeriod ∉ (awaiting .statusPeriod).expiries.lapsed) ∧
    ((overtaken .statusPeriod).active = true ∧
      OwnTimer.statusPeriod ∈ (overtaken .statusPeriod).expiries.lapsed) ∧
    ((hearing true).active = true ∧ 3 < 16 ∧ 3 ≠ (hearing true).me ∧
      peer (hearing true) 3 = some (heard true) ∧ (hearing true).cfg.member 3 = true) := by
  decide +kernel

/-- A STATUS of a station in RUNNING with admit flag 1 and ready for no product. -/
def readyBody : List Nat := [3, 2, 1, 255, 255, 255] ++ List.replicate 17 0

/-- The ENTRY station with a head, every blocker's cause away and the other members heard ready. -/
def readyLine : State :=
  let p : Option Peer := some ⟨statusBody (bytes readyBody), 0⟩
  { run with
    board := { run.board with expected := [expected 412], admitFlag := true }
    link := { run.link with peers := (run.link.peers.set 3 p).set 4 p } }

/-- The same with the function ENTRY alone and a service board as head: no blocker holds. -/
def calmLine : State :=
  { readyLine with
    board := { readyLine.board with
      expected := [{ expected 412 with product := some 1048561, ref := .service 1 }] }
    loader := { readyLine.loader with image := some { img with
      functions := ⟨true, false, false, false, false, false⟩ } }
    fume := { run.fume with adopted := true } }

/-- The ready line with the spacing mark at 0 and the counter as given. -/
def spaced (c : Pos) : State :=
  { readyLine with
    board := { readyLine.board with spacing := some 0 }
    pos := { readyLine.pos with counter := c } }

/-- GateOpensOnlyWhenTheLineIsReady: a STATUS of station 3 opens the gate, with the spacing just reached
too, and not one step before; so does the status period; a line that is ready and one that is not; a deadline
that is inserted and one that is refused. -/
theorem wit_GateOpensOnlyWhenTheLineIsReady :
    (run.board.head = none ∧ readyLine.board.head = some (expected 412) ∧
      mayAdmit readyLine (expected 412) = true ∧
      headDue (openGate (expected 412) readyLine).pos.counter
        (openGate (expected 412) readyLine).pos.schedule = false ∧
      (spaced 99).board.head = some (expected 412) ∧ mayAdmit (spaced 99) (expected 412) = false) ∧
    ((scheduleInsert 0 ⟨412, .arrivalDeadline, 0, offset 0 600⟩ readyLine.pos.schedule).isSome = true ∧
      scheduleInsert 0 ⟨412, .arrivalDeadline, 0, offset 0 600⟩ (scheduled 48 readyLine).pos.schedule = none ∧
      findRecord 412 (scheduled 48 readyLine).board.queue = none ∧ readyLine.link.queue.length < 12) ∧
    readyLine.board.gate = none ∧
    (after (.status (toAll 3 readyBody)) readyLine).board.gate = some 412 ∧
    (after (.status (toAll 3 readyBody)) (spaced 100)).board.gate = some 412 ∧
    (after (.status (toAll 3 readyBody)) (spaced 99)).board.gate = none ∧
    (after .statusPeriod calmLine).board.gate = some 412 := by decide +kernel

/-- The station with demands of 480 in both classes heard from stations 3 and 4. -/
def crowded : State :=
  { run with allot := { run.allot with
      view := (run.allot.view.set 3 (some ⟨200, 100, 480, 480, 0⟩)).set 4 (some ⟨200, 100, 480, 480, 2⟩) } }

/-- GrantsWithinTheSupplyLimit: the demands within the limit, and above it in each class; a channel; each
kind of number in the view. -/
theorem wit_GrantsWithinTheSupplyLimit :
    (viewDemands true run).sum ≤ run.cfg.supplyLimit ∧
    (viewDemands false run).sum ≤ run.cfg.supplyLimit - (grants0 run).sum ∧
    crowded.cfg.supplyLimit < (viewDemands true crowded).sum ∧
    crowded.cfg.supplyLimit - (grants0 crowded).sum < (viewDemands false crowded).sum ∧ crowded.me < 16 ∧
    (channel run 2).isSome = true ∧ crowded.me = 2 ∧ (crowded.allot.view.getD 3 none).isSome = true ∧
    run.allot.view.getD 3 none = none ∧ run.cfg.member 3 = true ∧ run.cfg.member 7 = false := by
  decide +kernel

/-- JOINING after n own rounds. -/
def joined (n : Nat) : State :=
  { inState .joining with loader := { (inState .joining).loader with roundCount := n } }

/-- PowerRoundAndHeatDemand: a round with room to queue, of each kind of channel; the
first two rounds of JOINING; a HEAT DEMAND at the greatest maximum, above it, and from the panel. -/
theorem wit_PowerRoundAndHeatDemand :
    (run.active = true ∧ run.me < 16 ∧ run.link.queue.length < 12) ∧
    (∃ k, k < 6 ∧ (run.cfg.channel k).fn = .pot) ∧
    ((run.cfg.channel 5).fn = .unused ∧ (run.cfg.channel 2).fn = .pot ∧
      (run.cfg.channel 0).fn.preheat = true ∧ (run.cfg.channel 1).fn.preheat = true) ∧
    ((joined 0).loader.station = .joining ∧ (joined 0).loader.roundCount = 0) ∧
    ((joined 1).loader.station = .joining ∧ (joined 1).loader.roundCount = 1) ∧
    (heardByAll .heatDemand (toAll 3 [1, 224, 0, 0, 1, 224, 1, 224]) run ∧
      field (toAll 3 [1, 224, 0, 0, 1, 224, 1, 224]).body 4 2 = 480 ∧
      heardByAll .heatDemand (toAll 3 [0, 0, 0, 0, 1, 225, 0, 0]) run ∧
      heardByAll .heatDemand (toAll 0 [0, 0, 0, 0, 0, 0, 0, 0]) run) :=
  ⟨by decide +kernel, ⟨2, by decide +kernel⟩, by decide +kernel, by decide +kernel, by decide +kernel,
    by unfold heardByAll; decide +kernel⟩

/-- EncoderPulseCounts: the tally at 0, at 1, on either side of REVERSE TRAVEL and at its greatest; a command
that is none of the four. -/
theorem wit_EncoderPulseCounts :
    (run.active = true ∧ (travelled 0 0).pos.tally = 0 ∧ 0 < (travelled 0 1).pos.tally ∧
      (travelled 0 65535).active = true) ∧
    ((travelled 0 49).pos.tally = 49 ∧ (travelled 0 50).pos.tally ≠ 49 ∧
      (travelled 0 49).alarm.place.length = 64 ∧ (travelled 0 49).alarm.flag 36 = false) ∧
    (∃ t, exec .zeroCross run = .next t) ∧ (∀ b, Instr.zeroCross ≠ .encoderPulse b) ∧
    (∀ k, Instr.zeroCross ≠ .coldReset k) ∧ Instr.zeroCross ≠ .resetRelease := by
  refine ⟨by decide +kernel, by decide +kernel, ⟨_, rfl⟩, ?_, ?_, ?_⟩ <;> simp

/-- The station with geometry changed. -/
def withGeometry (f : Geometry → Geometry) (s : State) : State :=
  { s with loader := { s.loader with image := some { img with geometry := f img.geometry } } }

/-- SensorChangesAreTaken: a change to the opposite level, and back while it is pending; the debounce
distance 0; an advance at which a pending change is and is not reached; a lone edge and a lone due entry. -/
theorem wit_SensorChangesAreTaken :
    (run.active = true ∧ 0 < run.cfg.geometry.debounce ∧ true ≠ (sensorOf .entry run).active ∧
      false = (sensorOf .entry run).active) ∧
    (let s := withGeometry (fun g => { g with debounce := 0 }) run
     s.active = true ∧ s.cfg.geometry.debounce = 0 ∧ true ≠ (sensorOf .exit s).active ∧
       (sensorOf .exit s).pending = none) ∧
    ((travelled 18 0).active = true ∧ (travelled 18 0).pos.tally = 0 ∧
      reachedBy (18 + 1) 0 run.cfg.geometry.debounce = false ∧
      reachedBy (19 + 1) 0 run.cfg.geometry.debounce = true) ∧
    (inState .joining).loader.station ≠ .running ∧
    (run.loader.station = .running ∧ headDue run.pos.counter run.pos.schedule = false ∧
      headDue run.pos.counter (finish run).pos.schedule = false ∧
      let u := deliverEdge ⟨.entry, true, 0⟩ (finish run)
      headDue u.pos.counter u.pos.schedule = false) ∧
    (let x : Event := ⟨412, .arrivalDeadline, 0, 0⟩
     let s := { withBoards [board 412 .inbound] with pos := { run.pos with schedule := [x] } }
     s.loader.station = .running ∧ headDue s.pos.counter s.pos.schedule = true ∧
       (finish s).pos.schedule = [x] ∧ reached s.pos.counter x.due = true ∧
       let u := fireEvent x { finish s with pos := { (finish s).pos with schedule := [] } }
       headDue u.pos.counter u.pos.schedule = false) := by decide +kernel

/-- The station with a record and a full schedule. -/
def fullSchedule : State := scheduled 48 (withBoards [board 412 .inside])

/-- ScheduleInsertion: a schedule with room, one with 48 entries in order of their due positions, and a
board with four exceptions. -/
theorem wit_ScheduleInsertion :
    (scheduleInsert 0 ⟨1, .zoneEnter, 0, 10⟩ []).isSome = true ∧
    (let l : List Event := (List.range 48).map fun n => ⟨n, .zoneEnter, 0, 10⟩
     scheduleInsert 0 ⟨99, .zoneEnter, 0, 10⟩ l = none ∧
       (scheduleInsert 0 ⟨47, .zoneEnter, 0, 10⟩ l).isSome = true ∧
       l.Pairwise (fun x y => before 0 y.due x.due = false)) ∧
    (∀ k ∈ [EventKind.waveRaise, .fluxStart], scheduleInsert fullSchedule.pos.counter ⟨412, k, 0, 20⟩
      fullSchedule.pos.schedule = none) ∧
    findRecord 412 fullSchedule.board.queue = some (board 412 .inside) ∧
    (board 412 .inside).exceptions.length ≤ 4 ∧ 412 ∉ fullSchedule.flux.handled := by decide +kernel

/-- The station with a record between the leading and the trailing edge, its length and the lead given. -/
def between (len : Nat) : BoardRecord := { board 412 .entering with length := len, lead := some 100 }

/-- EntryEdgesMoveBoards: an INBOUND record with a schedule of 41; 8 records and 7, none INBOUND; a
trailing edge without an open record, and for one whose length is unknown, within its tolerance and past it,
with a schedule of 42. -/
theorem wit_EntryEdgesMoveBoards :
    (let s := scheduled 41 (withBoards [board 7 .inside, board 412 .inbound])
     s.board.queue.find? (fun x => x.state == .inbound) = some (board 412 .inbound) ∧
       s.pos.schedule.length ≤ 41 ∧ (s.cfg.zone 0).machine ≠ 0 ∧ s.cfg.functions.flux = true ∧
       s.cfg.functions.pot = true) ∧
    (let s := withBoards ((List.range 8).map fun n => board n .inside)
     (∀ x ∈ s.board.queue, x.state ≠ .inbound) ∧ 8 ≤ s.board.queue.length) ∧
    (let s := scheduled 41 (withBoards ((List.range 7).map fun n => board n .inside))
     (∀ x ∈ s.board.queue, x.state ≠ .inbound) ∧ s.board.queue.length < 8 ∧
       s.alarm.place.length = 64 ∧ s.pos.schedule.length ≤ 41) ∧
    (∀ x ∈ (withBoards [board 412 .inside]).board.queue, x.lead = none ∨ x.trail ≠ none) ∧
    (∀ len ∈ [0, 2050, 2051, 2100], let s := scheduled 42 (withBoards [board 7 .inside, between len])
     s.board.queue.find? (fun x => x.lead.isSome && x.trail.isNone) = some (between len) ∧
       findRecord 412 s.board.queue = some (between len) ∧ (between len).lead = some 100 ∧
       (between len).exceptions.length < 6 ∧ s.pos.schedule.length ≤ 42 ∧ s.cfg.functions.flux = true ∧
       s.cfg.functions.pot = true ∧ (s.cfg.zone 1).machine ≠ 0) ∧
    ((((2100 : Pos) - 100).toNat : Int) - 2051).natAbs > img.geometry.lengthTol ∧
    ((((2100 : Pos) - 100).toNat : Int) - 2050).natAbs ≤ img.geometry.lengthTol := by decide +kernel

/-- The station with record 412 in a state, exit-bound or not. -/
def atExit (st : RecordState) (b : Option Tag) (outstanding : Bool) : State :=
  { run with board := { run.board with
      queue := [board 7 .inbound, board 412 st], handoff := ⟨b, outstanding, false, none⟩ } }

/-- The same with no downstream station. -/
def atLastExit (st : RecordState) : State :=
  { atExit st none false with loader := { run.loader with image := some { img with downstream := none } } }

/-- ExitEdgesAndDeadlinesMoveBoards: every clause, with the record in each state that it names. -/
theorem wit_ExitEdgesAndDeadlinesMoveBoards :
    (∀ x ∈ (atExit .finishing none false).board.queue, x.state ≠ .entering ∧ x.state ≠ .inside) ∧
    (∀ st ∈ [RecordState.entering, .inside],
      (let s := atExit st none false
       s.board.queue.find? (fun x => x.state == .entering || x.state == .inside) = some (board 412 st) ∧
         s.board.handoff.bound = none ∧ s.cfg.downstream = some 3 ∧
         findRecord 412 s.board.queue = some (board 412 st) ∧ s.link.queue.length < 12) ∧
      (atExit st (some 7) true).board.handoff.bound ≠ none ∧ (atLastExit st).cfg.downstream = none ∧
      (atLastExit st).board.handoff.bound = none) ∧
    ((atExit .finishing none false).board.queue.find? (fun x => x.state == .finishing) =
        some (board 412 .finishing) ∧
      findRecord 412 (atExit .finishing none false).board.queue = some (board 412 .finishing)) ∧
    ((∀ x ∈ (atExit .inside none false).board.queue, x.state ≠ .finishing) ∧
      (atExit .inside none false).board.handoff.bound = none) ∧
    (∀ st ∈ [RecordState.offered, .blocked, .inside], ∀ o ∈ [true, false],
      let s := atExit st (some 412) o
      (∀ x ∈ s.board.queue, x.state ≠ .finishing) ∧ s.board.handoff.bound = some 412 ∧
        findRecord 412 s.board.queue = some (board 412 st) ∧ s.board.handoff.outstanding = o) ∧
    (let s := atExit .inside none false
     (findRecord 9 s.board.queue = none) ∧ findRecord 412 s.board.queue = some (board 412 .inside) ∧
       findRecord 7 s.board.queue = some (board 7 .inbound) ∧ s.alarm.place.length = 64 ∧
       s.link.queue.length < 12) := by decide +kernel

/-- ProductsAreResolved: NONE; service codes at both ends; a LIVE entry, one FAILED, a free entry, a
directory without room; a board whose recipe is RESOLVED and one whose is FETCHING. -/
theorem wit_ProductsAreResolved :
    (1048560 ≤ 1048560 ∧ 1048560 ≤ 1048575) ∧
    (9 < 1048560 ∧ fetching.recipe.liveEntry 9 = some 31 ∧ fetching.recipe.entry 31 = some lacking ∧
      lacking.fetch ≠ .failed) ∧
    (let e := { lacking with fetch := .failed, timer := none }
     let s := { run with recipe := run.recipe.setEntry 31 (some e) }
     s.recipe.liveEntry 9 = some 31 ∧ s.recipe.entry 31 = some e ∧ e.fetch = .failed ∧
       e.full s.cfg.functions = false ∧ s.link.queue.length < 12) ∧
    (1048559 < 1048560 ∧ run.recipe.liveEntry 1048559 = none ∧ run.recipe.freeEntry = some 0 ∧
      run.recipe.dir.length = 32 ∧
      (run.cfg.functions.needs .heat || run.cfg.functions.needs .flux) = true) ∧
    (let full := { (fullDir true) with dir := (fullDir true).dir.set 5 (some (held 5 1 true)) }
     let s := { run with recipe := full }
     s.recipe.liveEntry 99 = none ∧ s.recipe.roomForProduct.1 = none ∧ s.alarm.place.length = 64) ∧
    (let s := { fetching with board := { run.board with
        queue := [{ board 412 .inside with ref := .entry 31 }, board 413 .entering] } }
     (findRecord 412 s.board.queue = some { board 412 .inside with ref := .entry 31 } ∧
       s.recipe.status (.entry 31) = .fetching ∧ (board 412 .inside).exceptions.length < 6) ∧
     findRecord 413 s.board.queue = some (board 413 .entering) ∧
       s.recipe.status .default ≠ .fetching) := by decide +kernel

/-- A station whose boards hold each form of reference, the service boards one of each plan. -/
def referring : State :=
  { run with
    loader := { run.loader with image := some { img with services :=
      [⟨.none, .none, false, false⟩, ⟨.default, .default, false, false⟩, ⟨.inherit, .inherit, false, false⟩] } }
    recipe := fetching.recipe.setEntry 31 (some { lacking with fetch := .complete })
    board := { run.board with queue :=
      [(410, .service 2), (411, Ref.entry 31), (412, .service 1), (413, .service 2), (414, .unentered 9),
        (415, .service 2), (416, .default), (417, .service 0), (418, .entry 5)].map (fun x =>
          { board x.1 .inside with ref := x.2 }) } }

/-- ProductsAreResolved, the pages of boards: a board before which no other stands, and each board of a queue,
after a complete entry and after a board whose product is not entered. -/
theorem wit_ProductsAreResolved_pages :
    (∀ n ∈ List.range 9, let q := referring.board.queue
      q = q.take n ++ q.getD n (board 0 .inside) :: q.drop (n + 1) ∧
      ∀ x ∈ q.take n, x.tag ≠ (q.getD n (board 0 .inside)).tag) ∧
    (∀ x ∈ referring.board.queue, x.tag ≠ 500) ∧
    (∃ e x, referring.recipe.entry 31 = some e ∧ e.fetch = .complete ∧ e.page .flux = some x ∧
      x.slot = 1 ∧ (referring.recipe.slots.getD x.slot none).map Page.kind = some .flux) ∧
    referring.recipe.status (.entry 5) ≠ .resolved ∧ referring.recipe.status (.unentered 9) ≠ .resolved ∧
    ((referring.cfg.service 0).flux = .none ∧ (referring.cfg.service 1).flux = .default ∧
      (referring.cfg.service 2).flux = .inherit) ∧
    ∃ k d plan, k = PageKind.flux ∧ d = Page.flux referring.cfg.fluxPage ∧ plan = ServiceEntry.flux :=
  ⟨by decide +kernel, by decide +kernel, ⟨_, _, rfl, rfl, rfl, rfl, by decide +kernel⟩, by decide +kernel,
    by decide +kernel, by decide +kernel, ⟨_, _, _, rfl, rfl, rfl⟩⟩

/-- SweepsEvict: a free entry, an entry evicted with the hand at 31, none to evict; a free slot, a full page
store that evicts, and one that finds none since the entry that could be evicted wants the page. -/
theorem wit_SweepsEvict :
    RecipeStore.cold.freeEntry = some 0 ∧
    ((fullDir false).dir.length = 32 ∧ (fullDir false).hand < 32 ∧ (fullDir false).freeEntry = none ∧
      (fullDir false).roomForProduct.1 = some 5) ∧
    ((fullDir true).dir.length = 32 ∧ (fullDir true).freeEntry = none ∧
      (fullDir true).roomForProduct.1 = none) ∧
    RecipeStore.cold.freeSlot = some 0 ∧
    (fullSlots.dir.length = 32 ∧ fullSlots.hand < 32 ∧ fullSlots.slots.length = 64 ∧
      fullSlots.freeSlot = none ∧ (fullSlots.roomForPage 0).1.isSome = true ∧
      (fullSlots.roomForPage 5).1 = none) ∧
    (∀ j e, fullSlots.entry j = some e → ∀ n ∈ e.slots, n < 64) := by
  refine ⟨by decide +kernel, by decide +kernel, by decide +kernel, by decide +kernel, by decide +kernel, ?_⟩
  intro j e h
  have small : ∀ j ∈ List.range 32, ∀ e, fullSlots.entry j = some e → ∀ n ∈ e.slots, n < 64 := by
    have all : ((List.range 32).all fun j => match fullSlots.entry j with
        | some e => e.slots.all fun n => decide (n < 64)
        | none => true) = true := by decide +kernel
    intro j hj e he n hn
    have hx := List.all_eq_true.mp all j hj
    rw [he] at hx
    exact of_decide_eq_true (List.all_eq_true.mp hx n hn)
  by_cases hj : j < 32
  · exact small j (List.mem_range.mpr hj) e h
  · have : fullSlots.dir.length ≤ j := by
      have : fullSlots.dir.length = 32 := by decide +kernel
      omega
    simp [RecipeStore.entry, List.getD_eq_getElem?_getD, this] at h

/-- The station with channel 0, which has a secondary on input 6, as given. -/
def withFirst (c : Channel) : State := modChannel 0 (fun _ => c) run

/-- Channel 0 after a sample of a temperature. -/
def sampled (c : Channel) (v : Int) : Option Channel :=
  channel (after (.heatSample (List.replicate 8 (.value v))) (withFirst c)) 0

/-- HeatSampleJudges: good readings at the ends of the range, fault readings beyond them and past the rate
check, the third fault with and without a secondary; temperatures at the limit, at 50 below it and one lower,
with OVERTEMP in service; queues and lists whose first boards do not govern. -/
theorem wit_HeatSampleJudges :
    (run.active = true ∧ run.cfg.functions.heat = true ∧ (run.cfg.channel 0).fn ≠ .unused ∧
      channel (withFirst piChannel) 0 = some piChannel ∧ (withFirst piChannel).alarm.place.length = 64) ∧
    (∀ v ∈ [(-500 : Int), 6500], -500 ≤ v ∧ v ≤ 6500 ∧ piChannel.refd = false) ∧
    (∀ v ∈ [(-501 : Int), 6501], ¬(-500 ≤ v ∧ v ≤ 6500)) ∧
    (let c := { piChannel with refd := true }
     ((c.measured + 150) - c.measured).natAbs ≤ 150 ∧ ¬((c.measured - 151) - c.measured).natAbs ≤ 150) ∧
    (let c := { piChannel with faultRun := 2 }
     2 ≤ c.faultRun ∧ c.secondary = false ∧ (run.cfg.channel 0).secondary ≠ none ∧
       (run.cfg.channel 1).secondary = none ∧ run.cfg.masked 0 = false ∧ run.alarm.flag 0 = false) ∧
    (∀ v ∈ [(2949 : Int), 2950, 3000], let s := withCode 18 .inService false
     s.alarm.at 18 = .inService ∧ s.alarm.flag 18 = false ∧ (s.cfg.channel 0).limit = 3000 ∧
       (v < 2950 ∨ 2950 ≤ v)) ∧
    (let s := { run with loader := { run.loader with image := some { img with
        heatPage := ⟨2600, List.replicate 16 1500, List.replicate 16 0⟩ } } }
     let passed := { board 411 .inside with trail := some 0 }
     let s1 := { s with
       board := { s.board with queue := [passed, board 412 .inside], expected := [expected 413] }
       pos := { s.pos with counter := 2500 } }
     recordValue s1 0 passed = none ∧ recordValue s1 0 (board 412 .inside) = some (412, 1500) ∧
       reached s1.pos.counter (offset 0 2500) = true ∧ refValue s1 0 .default = some 1500 ∧
       refValue s1 1 .default = none ∧ refHeat .default s1 = some s1.cfg.heatPage ∧
       refHeat (.unentered 9) s1 = none) ∧
    (fetching.recipe.status (.entry 31) ≠ .resolved ∧
      (let s := { fetching with recipe := fetching.recipe.setEntry 31 (some { lacking with
          fetch := .complete }) }
       s.recipe.status (.entry 31) = .resolved ∧
         s.recipe.pageOf 31 .heat = some (.heat img.heatPage))) := by decide +kernel

/-- HeatSampleJudges, its detector: settled, before a sample within its band, outside it, and of a mode that
holds it; a sample that ends the ramp guard, and one that sets HELD. -/
theorem wit_HeatSampleJudges_detector :
    let c := { piChannel with det := ⟨.settled, 0⟩, heldFlag := true }
    c.det.phase = .settled ∧ (sampled c 1500).map (fun d => (d.lastGood, d.mode, d.det.phase)) =
        some (true, .regulating, .settled) ∧
      (sampled c 1551).map (fun d => (d.det.phase, d.heldFlag)) = some (.unsettled, false) ∧
      (sampled { c with lost := true } 7000).map (fun d => (d.mode, d.lastGood, d.det.phase)) =
        some (.blind, false, .unsettled) ∧
      (sampled { c with det := ⟨.unsettled, 29⟩, guarded := true } 1500).map
        (fun d => (d.det.phase, d.guarded)) = some (.confirming, false) ∧
      (sampled { c with det := ⟨.confirming, 19⟩, heldFlag := false } 1500).map
        (fun d => (d.det.phase, d.heldFlag, d.armed)) = some (.settled, true, false) := by decide +kernel

/-- AppliedDutyIsBounded: RUNNING with HEAT and POT; a channel of each function. -/
theorem wit_AppliedDutyIsBounded :
    run.active = true ∧ run.cfg.functions.heat = true ∧ 2 < 6 ∧ (run.cfg.channel 2).fn ≠ .unused ∧
    (channel (after (.heatSample (List.replicate 8 .openCircuit)) run) 2).isSome = true := by decide +kernel

/-- RegulationSample: the greatest coefficient, each hold of the integrator, its limit, and a cap below the
output; a channel in REGULATING, in BLIND and in neither. -/
theorem wit_RegulationSample :
    ({ img.channel 0 with kp := 255 } : ChannelCfg).kp ≤ 255 ∧
    piChannel.iacc ≤ 256000 ∧ 0 < piChannel.error ∧
    ({ piChannel with limUp := true } : Channel).limUp = true ∧
    ({ piChannel with measured := 1600 } : Channel).error < 0 ∧
    ({ piChannel with iacc := 256000 } : Channel).iacc ≤ 256000 ∧
    (piChannel.regulate (img.channel 0) 0 false false).duty <
      (piChannel.regulate (img.channel 0) 0 false false).uc ∧
    piChannel.mode = .regulating ∧ ({ piChannel with mode := .blind } : Channel).mode = .blind ∧
    ({ piChannel with mode := .tripped } : Channel).mode ≠ .regulating ∧
    ({ piChannel with mode := .tripped } : Channel).mode ≠ .blind ∧
    (piChannel.mode ≠ .blind ∧ Mode.tripped ≠ piChannel.mode ∧ Mode.tripped ≠ .blind) := by decide +kernel

/-- DetectorSettlesAfterNPlusK. -/
theorem wit_DetectorSettlesAfterNPlusK :
    28 + 1 < img.heatDet.n ∧ 29 + 1 = img.heatDet.n ∧ 18 + 1 < img.heatDet.k ∧ 19 + 1 = img.heatDet.k ∧
    1 ≤ img.heatDet.n ∧ 1 ≤ img.heatDet.k ∧ 1 ≤ (⟨0, 0, 1, 1⟩ : DetParams).n ∧
    1 ≤ (⟨0, 0, 1, 1⟩ : DetParams).k := by decide

/-- The station with channel 2 as given. -/
def withChannel (c : Channel) : State := modChannel 2 (fun _ => c) run

/-- ChannelTimersEnd: a running idle timer; a BLIND channel. -/
theorem wit_ChannelTimersEnd :
    (heatActs (withChannel { piChannel with idle := .running 1799999 }) = true ∧
      channel (withChannel { piChannel with idle := .running 1799999 }) 2 =
        some { piChannel with idle := .running 1799999 }) ∧
    (heatActs (withChannel { piChannel with mode := .blind }) = true ∧
      (withChannel { piChannel with mode := .blind }).loader.station = .running ∧
      (run.cfg.channel 2).fn ≠ .unused ∧
      channel (withChannel { piChannel with mode := .blind }) 2 = some { piChannel with mode := .blind } ∧
      2 < 6 ∧ (withChannel { piChannel with mode := .blind }).alarm.place.length = 64) := by
  decide +kernel

/-- ZeroCrossFiresAndMissingMainsStops: accumulators that do and do not reach 1000. -/
theorem wit_ZeroCrossFiresAndMissingMainsStops :
    heatActs run = true ∧
    (let c := { piChannel with acc := 999, duty := 1 }
     channel (withChannel c) 2 = some c ∧ c.acc ≤ 999 ∧ c.duty ≤ 1000 ∧ 1000 ≤ c.acc + c.duty) ∧
    (let c := { piChannel with acc := 0, duty := 999 }
     channel (withChannel c) 2 = some c ∧ c.acc ≤ 999 ∧ c.duty ≤ 1000 ∧ ¬1000 ≤ c.acc + c.duty) := by
  decide +kernel

/-- The station with a board, a note of zone 0 for it and channel 0 as given. -/
def noted (c : Channel) (n : NoteChannel) : State :=
  { modChannel 0 (fun _ => c) (withBoards [board 412 .inside]) with
    heat := { (modChannel 0 (fun _ => c) run).heat with notes := [⟨412, 0, [n]⟩] } }

/-- A station on whose board a service entry profiles. -/
def profiled : State :=
  { run with
    board := { run.board with queue := [{ board 412 .inside with ref := .service 1 }] }
    loader := { run.loader with image := some { img with
      services := List.replicate 16 ⟨.default, .default, true, true⟩ } } }

/-- ZoneEventsNoteAndJudge: a zone without channels and one with; a note that stands, one with a count
moved, one with HELD 0 and one with the power-limited count moved; a profiling board. -/
theorem wit_ZoneEventsNoteAndJudge :
    run.cfg.zoneChannels 2 = [] ∧ run.cfg.zoneChannels 0 ≠ [] ∧ (channel run 0).isSome = true ∧
    run.heat.notes.find? (fun m => m.tag == 412 && m.zone == 0) = none ∧
    (∀ n ∈ [(⟨0, 0, 0, true⟩ : NoteChannel), ⟨0, 1, 0, true⟩, ⟨0, 0, 0, false⟩, ⟨0, 0, 1, true⟩],
      let s := noted piChannel n
      s.heat.notes.find? (fun m => m.tag == 412 && m.zone == 0) = some ⟨412, 0, [n]⟩ ∧
        findRecord 412 s.board.queue = some (board 412 .inside) ∧
        (board 412 .inside).exceptions.length ≤ 4 ∧ channel s 0 = some piChannel) ∧
    (profiling 412 profiled = true ∧ profiled.cfg.zoneChannels 0 ≠ [] ∧
      profiled.link.queue.length < 12) := by decide +kernel

/-- A FLUX page with three nozzles. -/
def spray : FluxPage := ⟨0x26, 30, 30, 200, 50, 12, 20⟩

/-- A FLUX station without a hood or a fan, whose default page has three nozzles, with board 530. -/
def spraying : State :=
  { withBoards [board 530 .inside] with
    loader := { run.loader with image := some { img with
      functions := ⟨false, true, false, false, false, false⟩, fluxPage := spray } }
    fume := { run.fume with adopted := true } }

/-- It with board 530's series open, and the nozzle pulse as given. -/
def open530 (nozzle : Option Nat) (s : State) : State :=
  { s with flux := { s.flux with
      series := some { series530 0 with drain := none }, handled := [530], nozzle := nozzle } }

/-- FluxEventsRunASeries: a handled board; one without a page, one while extraction is not proven; one that
opens a series while another's is held; strokes of another board's series and of its own, fired and skipped,
with room and without; the two cases of FLUX END. -/
theorem wit_FluxEventsRunASeries :
    530 ∈ (open530 none spraying).flux.handled ∧
    (530 ∉ run.flux.handled ∧ (boardFlux 530 (firstUse 530 run) = none ∨ proven run = false ∨
      tankEmpty run = true) ∧ boardFlux 530 (firstUse 530 spraying) = some spray) ∧
    (proven spraying = true ∧ tankEmpty spraying = false ∧ 530 ∉ spraying.flux.handled ∧
      spraying.pos.schedule.length < 48) ∧
    (let s := { spraying with
        board := { spraying.board with queue := [board 529 .inside, board 530 .inside] }
        flux := { spraying.flux with series := some { series530 300 with tag := 529 } } }
     boardFlux 530 (firstUse 530 s) = some spray ∧ proven s = true ∧ tankEmpty s = false ∧
       0 < ({ series530 300 with tag := 529 } : Series).fired ∧
       findRecord 529 s.board.queue = some (board 529 .inside)) ∧
    spraying.flux.series = none ∧
    (∀ n ∈ [none, some 20], ∀ k ∈ [47, 48], let s := open530 n (scheduled k spraying)
     s.flux.series = some { series530 0 with drain := none } ∧
       findRecord 530 s.board.queue = some (board 530 .inside) ∧
       (board 530 .inside).exceptions.length ≤ 4 ∧ s.alarm.place.length = 64 ∧ s.flux.nozzle = n ∧
       proven s = true ∧ tankEmpty s = false ∧ s.pos.schedule.length = k ∧
       ∀ e ∈ s.pos.schedule, ¬(e.tag = 530 ∧ e.kind = .fluxStroke ∧ e.qualifier = 0)) ∧
    (530 ∉ spraying.flux.handled ∧ findRecord 530 spraying.board.queue = some (board 530 .inside)) := by
  decide +kernel

/-- FlowMeterPulseCounts: a series held, its count at the limit, and none. -/
theorem wit_FlowMeterPulseCounts :
    fluxActs (draining530 65535) = true ∧ (draining530 65535).flux.series = some (series530 65535) ∧
    fluxActs run = true ∧ run.flux.series = none := by decide +kernel

/-- MeteringWritesTheVolume: enough flux, too little, and no stroke fired; without
flow and with it, at each no-flow count. -/
theorem wit_MeteringWritesTheVolume :
    (draining530 280).flux.series = some (series530 280) ∧
    findRecord (series530 280).tag (draining530 280).board.queue = some (board 530 .inside) ∧
    0 < (series530 280).fired ∧
    (series530 280).flow * 100 < (series530 280).fired * nozzleCount (series530 280).mask *
      (series530 280).nominal * (100 - (series530 280).tolerance) ∧
    (board 530 .inside).exceptions.length < 6 ∧
    ({ series530 0 with fired := 0 } : Series).fired = 0 ∧
    (∀ v ∈ [0, 300], ∀ n ∈ [0, 2, 3],
      let s := { draining530 v with flux := { (draining530 v).flux with noFlow := n } }
      s.flux.series = some (series530 v) ∧ 0 < (series530 v).fired ∧
        0 < (series530 v).fired * nozzleCount (series530 v).mask * (series530 v).nominal ∧
        (series530 v).flow = v ∧ s.flux.noFlow = n ∧ s.alarm.place.length = 64 ∧
        s.cfg.masked 39 = false ∧ s.alarm.flag 39 = false) := by decide +kernel

/-- The station with a tank switch as given. -/
def withTank (w : TankSwitch) (t : Tank) : State := setTank w t run

/-- FluxTimersAndTankSwitches: a nozzle pulse; a draining series; each clause for each tank switch. -/
theorem wit_FluxTimersAndTankSwitches :
    fluxActs run = true ∧ fluxActs (draining530 300) = true ∧
    (draining530 300).flux.series = some (series530 300) ∧ (series530 300).drain = some 200 ∧
    (fluxActs (withTank .low ⟨some true, some 500⟩) = true ∧
      (tankOf .low (withTank .low ⟨some true, some 500⟩)).taken = some true) ∧
    (tankOf .low (withTank .low ⟨some (!true), none⟩)).taken = some (!true) ∧
    (fluxActs (withTank .empty ⟨some false, some 1000⟩) = true ∧
      tankOf .empty (withTank .empty ⟨some false, some 1000⟩) = ⟨some false, some 1000⟩) := by
  decide +kernel

/-- A POT station with board 412 and raised boards. -/
def raising (l : List Raised) (lev : Option LevelState) : State :=
  { withBoards [board 412 .inside] with pot := { run.pot with raised := l, level := lev } }

/-- WaveEventsSetTheGrades: a raised board; one that is not, at LOW-LOW; a board without a page; the empty
set, a set of one, and each of the states in which the pumps stand. -/
theorem wit_WaveEventsSetTheGrades :
    (∃ r ∈ (raising [⟨412, 120, 150, true⟩] none).pot.raised, r.tag = 412) ∧
    ((∀ r ∈ (raising [] (some .lowLow)).pot.raised, r.tag ≠ 412) ∧
      (boardWave 412 (firstUse 412 (raising [] (some .lowLow)))).isSome = true ∧
      (raising [] (some .lowLow)).pot.level = some .lowLow ∧
      findRecord 412 (raising [] (some .lowLow)).board.queue = some (board 412 .inside) ∧
      (board 412 .inside).exceptions.length ≤ 4) ∧
    ((∀ r ∈ (raising [] none).pot.raised, r.tag ≠ 999) ∧
      boardWave 999 (firstUse 999 (raising [] none)) = none) ∧
    (let s := raising [⟨412, 255, 255, false⟩] none
     s.loader.station = .running ∧ s.cfg.functions.pot = true ∧ s.pot.level ≠ some .lowLow ∧
       (gradesInForce s).1 ≤ 255 ∧ (gradesInForce s).2 ≤ 255) ∧
    (inState .joining).loader.station ≠ .running ∧ run.pot.raised = [] := by
  refine ⟨⟨_, List.mem_singleton.mpr rfl, rfl⟩, ?_⟩
  decide +kernel

/-- The station with a ring and a quiet timer. -/
def withRing (n quiet : Nat) : State :=
  { run with pot := { run.pot with ring := List.replicate n 590, quiet := quiet } }

/-- LevelSampleForms: a reading that fills the ring, one into a full ring, one that does not fill it, and
the samples that enter nothing; a check that ends and one that does not; a pulse; a sample that makes the level
state LOW-LOW and ones that do not. -/
theorem wit_LevelSampleForms :
    potActs (withRing 15 3000) = true ∧ (1000 : Nat) ≤ 1000 ∧ 3000 ≤ (withRing 15 3000).pot.quiet ∧
    (withRing 15 3000).pot.ring.length ≤ 16 ∧
    ((withRing 15 3000).pot.ring ++ [590]).length = 16 ∧
    (withRing 16 3000).pot.ring.length = 16 ∧ ((withRing 14 3000).pot.ring ++ [590]).length < 16 ∧
    (withRing 15 2999).pot.quiet < 3000 ∧ ((-1 : Int) < 0 ∨ (1000 : Int) < -1) ∧
    ((1001 : Int) < 0 ∨ (1000 : Int) < 1001) ∧
    (∀ n ∈ [8, 9], let s := { withRing 16 3000 with pot := { (withRing 16 3000).pot with check := some n } }
     (after (.levelSample (.value 590)) s).pot.check = if n = 9 then none else some 9) ∧
    (let s := { withRing 16 3000 with pot := { (withRing 16 3000).pot with
        feed := .pulse 7, level := some .normal, ring := List.replicate 16 520, raised := [⟨412, 60, 70, true⟩] } }
     (takeLevel (.value 519) s).pot.level = some .lowLow ∧ s.pot.level ≠ some .lowLow ∧
       (takeLevel (.value 1000) s).pot.level = some .low ∧
       (after (.levelSample (.value 519)) s).pot.feed = .pause 0) := by decide +kernel

/-- The station with every gate of feeding open. -/
def feeding : State :=
  { withChannel { piChannel with det := ⟨.settled, 0⟩ } with
    pot := { run.pot with avg := some 580, level := some .normal, ring := List.replicate 16 580 } }

/-- The station in a feeder phase. -/
def inPhase (p : FeedPhase) : State := { run with pot := { run.pot with feed := p } }

/-- FeedPulseBeginsOnlyGated: a judgement that begins a pulse, one that does not, and feeding wanted with
the budget at 0 before and after FEED RUNAWAY; an average at feed-off and one below it; a melt pause about to
end. -/
theorem wit_FeedPulseBeginsOnlyGated :
    (judgeFeed feeding).pot.feed ≠ feeding.pot.feed ∧ (judgeFeed run).pot.feed = run.pot.feed ∧
    (feeding.loader.station = .running ∧ feeding.pot.feed = .ready ∧ feedWanted feeding = true ∧
      levelVerified feeding = true ∧ potReady feeding = true ∧ 0 < feeding.pot.budget ∧
      feeding.alarm.at 47 = .idle ∧ feeding.pot.level ≠ some .high ∧
      feeding.pot.level ≠ some .lowLow) ∧
    (∀ b ∈ [true, false], let s := { feeding with pot := { feeding.pot with budget := 0, runaway := b } }
     s.pot.feed = .ready ∧ feedWanted s = true ∧ s.pot.budget = 0 ∧ s.pot.runaway = b ∧
       s.alarm.place.length = 64) ∧
    run.loader.station = .running ∧ (inState .joining).loader.station ≠ .running ∧
    (let s := { feeding with pot := { feeding.pot with avg := some 600, feedRun := true } }
     s.pot.feed = .ready ∧ s.cfg.pot.feedOff ≤ 600 ∧ s.cfg.pot.feedOn ≤ 600) ∧
    (let s := { feeding with pot := { feeding.pot with avg := some 599 } }
     s.pot.feed = .ready ∧ feedWanted s = false ∧ 599 < s.cfg.pot.feedOff) ∧
    (let s := { feeding with pot := { feeding.pot with age := 300000 } }
     s.loader.station = .running ∧ s.pot.feed = .ready ∧ feedWanted s = true ∧ 0 < s.pot.budget ∧
       levelVerified s = false) ∧
    potActs run = true ∧ Instr.meltPauseEnd ∈ dueCommands (inPhase (.pause 7999)) := by decide +kernel

/-- PotTimersEnd: an expiry in force, overtaken, and waiting; each feeder phase. -/
theorem wit_PotTimersEnd :
    potActs run = true ∧
    (∀ x ∈ [OwnTimer.levelCheck, .levelStale], x ∉ run.expiries.lapsed ∧
      potActs (overtaken x) = true ∧ x ∈ (overtaken x).expiries.lapsed ∧
      x ∈ (awaiting x).expiries.queued) ∧
    3000 ≤ (withRing 15 3000).pot.quiet ∧
    (potActs (inPhase (.pulse 2000)) = true ∧ (inPhase (.pulse 2000)).pot.feed = .pulse 2000) ∧
    (potActs (inPhase (.pause 8000)) = true ∧ (inPhase (.pause 8000)).pot.feed = .pause 8000) := by
  decide +kernel

/-- FlowSampleMeasures: readings at and beyond their limits; a station proven and not, with HOOD and without,
with a preheat channel and without, in RUNNING and in LOADING. -/
theorem wit_FlowSampleMeasures :
    hoodActs run = true ∧ (2000 : Nat) ≤ 2000 ∧ ((2001 : Int) < 0 ∨ (2000 : Int) < 2001) ∧
    (5000 : Nat) ≤ 5000 ∧ ((5001 : Int) < 0 ∨ (5000 : Int) < 5001) ∧
    (run.cfg.functions.hood = true ∧ proven run = false ∧
      proven { run with fume := { run.fume with det := ⟨.settled, 0⟩ } } = true) ∧
    (spraying.cfg.functions.hood = false ∧ proven spraying = spraying.fume.adopted) ∧
    ((run.cfg.channel 0).fn.preheat = true ∧ run.active = true ∧ (inState .loading).active = false ∧
      ∀ k ∈ List.range 6, (Image.blank.channel k).fn.preheat = false) := by decide +kernel

/-- The station with fields of its extraction set. -/
def fuming (f : Fume → Fume) : State := { run with fume := f run.fume }

/-- ExtractionTimersEnd: each clause. -/
theorem wit_ExtractionTimersEnd :
    (run.cfg.functions.fan = true ∧ run.cfg.functions.hood = true) ∧
    (spraying.cfg.functions.fan = false ∧ spraying.cfg.functions.hood = false) ∧
    (0 ≤ (⟨0, 150⟩ : CurvePoint).flow ∧ curve = curve.take 7 ++ [⟨3200, 1000⟩] ∧
      curve.Pairwise (fun x y => x.flow < y.flow) ∧ (⟨3200, 1000⟩ : CurvePoint).flow ≤ 3200) ∧
    (curve = curve.take 3 ++ ⟨800, 560⟩ :: ⟨1200, 700⟩ :: curve.drop 5 ∧
      (⟨800, 560⟩ : CurvePoint).flow ≤ 890 ∧ 890 < (⟨1200, 700⟩ : CurvePoint).flow) ∧
    (OwnTimer.riseDelay ∉ run.expiries.lapsed ∧ hoodActs (overtaken .riseDelay) = true ∧
      OwnTimer.riseDelay ∈ (overtaken .riseDelay).expiries.lapsed) ∧
    (let s := { awaiting .riseDelay with fume := { run.fume with required := 0, target := 0 } }
     s.cfg.functions.hood = true ∧ s.fume.required < requiredNow s ∧ s.fume.target < requiredNow s ∧
       0 < s.cfg.fume.riseDelay ∧ OwnTimer.riseDelay ∈ s.expiries.queued) ∧
    (let s := fuming fun f => { f with required := 150, target := 90, rise := some 1 }
     requiredNow s = 100 ∧ s.fume.target < requiredNow s ∧ requiredNow s ≤ s.fume.required ∧
       s.fume.rise ≠ some 0 ∧ requiredNow run ≤ run.fume.target) ∧
    (let s := { (fuming fun f => { f with required := 0, target := 0 }) with
       loader := { run.loader with image := some { img with fume := { img.fume with riseDelay := 0 } } } }
     s.cfg.functions.hood = true ∧ s.fume.required < requiredNow s ∧ s.cfg.fume.riseDelay = 0) ∧
    (hoodActs (fuming fun f => { f with rise := some 8000 }) = true ∧
      (fuming fun f => { f with rise := some 8000 }).fume.rise = some 8000) ∧
    (run.loader.station = .running ∧ run.cfg.functions.hood = true ∧ run.fume.measured < run.fume.target / 4) ∧
    ((fuming fun f => { f with grace := some 30000 }).active = true ∧
      (fuming fun f => { f with grace := some 30000 }).fume.grace = some 30000) ∧
    fanActs run = true ∧
    (let s := fuming fun f => { f with fanRef := 150, feedback := 5000 }
     fanActs s = true ∧ 0 < s.fume.fanRef ∧ s.pins.fanRun = false ∧ s.fume.feedback = 5000 ∧
     s.alarm.place.length = 64) := by decide +kernel

/-- The station with the ACK button in a phase. -/
def withAck (p : AckPhase) : State :=
  { run with alarm := { run.alarm with ack := p, list := [⟨3, 24, 3, false, false⟩] } }

/-- AckButton: each clause, the release at and below 20 ms, and a list without a PENDING entry. -/
theorem wit_AckButton :
    (run.active = true ∧ run.alarm.ack ≠ .spent ∧
      (run.alarm.list.find? fun x => !x.inService) = none) ∧
    ((withAck (.held 20)).active = true ∧ (withAck (.held 20)).alarm.ack ≠ .spent ∧
      ((withAck (.held 20)).alarm.list.find? fun x => !x.inService) = some ⟨3, 24, 3, false, false⟩) ∧
    (withAck .spent).alarm.ack = .spent ∧ (withAck (.released 20)).alarm.ack = .released 20 ∧
    (withAck (.released 19)).alarm.ack = .released 19 ∧
    (∀ n, (withAck .spent).alarm.ack ≠ .released n) := by
  refine ⟨by decide +kernel, by decide +kernel, by decide +kernel, by decide +kernel, by decide +kernel, fun n h => ?_⟩
  cases h

/-- RunPermitHornAndBeacon: a state in which the block takes part, and one in which it does not. -/
theorem wit_RunPermitHornAndBeacon :
    run.active = true ∧ (inState .joining).active = true ∧ (inState .configFault).active = false ∧
    State.reset.active = false := by decide +kernel

/-- AnnouncementPicksAndMoves: a code that is picked, of the greater level and by the pointer; a set from
which none is; codes of level 0 and above; each report, by where the code stands. -/
theorem wit_AnnouncementPicksAndMoves :
    (let a := (AlarmUnit.cold.move 25 .request).move 49 .request
     pickRequest img a = some 49 ∧ a.at 25 = .request ∧ img.masked 25 = false ∧
       a.rot.getD (levelOf 49) 0 < 64) ∧
    (let a := (AlarmUnit.cold.move 25 (.pending false)).move 43 .request
     pickRequest img a = none ∧ a.at 43 = .request ∧ img.masked 43 = false) ∧
    (run.alarm.place.length = 64 ∧ run.alarm.flags.length = 64 ∧ levelOf 49 ≠ 0 ∧
      run.link.queue.length ≤ 10 ∧ ∃ c ∈ List.range 64, levelOf c = 0) ∧
    (49 < 64 ∧ alarmLive 43 = true ∧ run.alarm.flag 43 = false) ∧
    (∀ p ∈ [Place.idle, .request, .pending true, .pending false, .inService], ∀ b ∈ [true, false],
      (withCode 43 p b).alarm.at 43 = p ∧ (withCode 43 p b).alarm.flag 43 = b ∧
      (withCode 43 p b).alarm.place.length = 64 ∧ (withCode 43 p b).alarm.flags.length = 64 ∧
      (withCode 43 p b).link.queue.length < 12 ∧
      (withCode 25 p b).alarm.at 25 = p ∧ (withCode 25 p b).alarm.flag 25 = b) ∧
    (25 < 64 ∧ alarmRecovery 25 = .condition) := by
  refine ⟨by decide +kernel, by decide +kernel, by decide +kernel, by decide +kernel, by decide +kernel,
    by decide +kernel⟩

/-- FinishReportsAndAnnounces: an inactive state; states with nothing to report, and with POWER SHORT beginning; a
set with a code to announce. -/
theorem wit_FinishReportsAndAnnounces :
    State.reset.active = false ∧ (run.active = true ∧ run.alarm.flags.length = 64) ∧
    (let s := finish run
     s.link.offersDropped = [] ∧ pickRequest s.cfg s.alarm = none ∧
     (∀ c, alarmLive c = true → s.alarm.flag c = liveHolds s c) ∧
     ∀ c, alarmLive c = false → alarmRecovery c = .condition → (c < 18 ∨ 23 < c) →
       s.alarm.flag c = recoveryHolds s c) ∧
    (let s := { run with allot := { run.allot with short := 10 } }
     s.active = true ∧ s.alarm.flag 55 = false ∧ (finish s).alarm.flag 55 = true) ∧
    pickRequest run.cfg (run.alarm.move 43 .request) = some 43 := by
  have low : (∀ c ∈ List.range 58, (alarmLive c = true → (finish run).alarm.flag c = liveHolds (finish run) c) ∧
      (alarmLive c = false → alarmRecovery c = .condition → (c < 18 ∨ 23 < c) →
        (finish run).alarm.flag c = recoveryHolds (finish run) c)) := by decide +kernel
  have live : ∀ c, alarmLive c = true → c < 58 := by
    intro c h
    simp only [alarmLive, inLimits, Bool.or_eq_true, Bool.and_eq_true, decide_eq_true_eq,
      List.contains_iff_mem, List.mem_cons, List.not_mem_nil, or_false] at h
    omega
  have latched : ∀ c, alarmRecovery c = .condition → c < 58 := by
    intro c h
    refine Nat.lt_of_not_le fun n => ?_
    rw [alarmRecovery, if_neg, if_neg] at h
    · cases h
    all_goals simp only [inLimits, Bool.or_eq_true, Bool.and_eq_true, decide_eq_true_eq, beq_iff_eq]; omega
  exact ⟨by decide +kernel, by decide +kernel,
    ⟨by decide +kernel, by decide +kernel, fun c h => (low c (List.mem_range.mpr (live c h))).1 h,
      fun c h h' => (low c (List.mem_range.mpr (latched c h'))).2 h h'⟩,
    by decide +kernel, by decide +kernel⟩

/-- StepKeepsTheBounds: a step from a state that meets the bounds at their greatest values. -/
theorem wit_StepKeepsTheBounds :
    queueBound (withQueue (List.replicate 12 (entry (.admitted 1) false))) ∧ scheduleBound (scheduled 48 run) ∧
    listBound { run with alarm := { run.alarm with list := fullList } } ∧
    (supplyHeld run ∧ supplyHeld (heldAt 2899)) ∧
    (∃ t, step { run with pending := [.zeroCross] } = .next t) := by
  refine ⟨by unfold queueBound; decide +kernel, by unfold scheduleBound; decide +kernel,
    by unfold listBound; decide +kernel,
    by unfold supplyHeld; decide +kernel, ⟨_, rfl⟩⟩

/-- StepKeepsPendingLevelsDistinct: two pending codes of different levels. -/
theorem wit_StepKeepsPendingLevelsDistinct :
    pendingDistinct { run with alarm := (run.alarm.move 25 (.pending false)).move 49 (.pending false) } ∧
    (∃ t, step { run with pending := [.statusPeriod] } = .next t) := by
  refine ⟨?_, ⟨_, rfl⟩⟩
  have two : ∀ c ∈ List.range 64,
      ((run.alarm.move 25 (.pending false)).move 49 (.pending false)).at c = .idle ∨ c = 25 ∨ c = 49 := by
    decide +kernel
  have at' : ∀ c, c < 64 → (∃ g, ((run.alarm.move 25 (.pending false)).move 49 (.pending false)).at c =
      .pending g) → c = 25 ∨ c = 49 := by
    intro c hc ⟨g, hg⟩
    rcases two c (List.mem_range.mpr hc) with h | h
    · rw [h] at hg; cases hg
    · exact h
  intro c d hc hd pc pd hl
  have l : levelOf 25 ≠ levelOf 49 := by decide
  rcases at' c hc pc with rfl | rfl <;> rcases at' d hd pd with rfl | rfl
  · rfl
  · exact absurd hl l
  · exact absurd hl.symm l
  · rfl

/-- SentFramesPassTheCheck: a PROFILE with one channel and with six. -/
theorem wit_SentFramesPassTheCheck :
    let p (n : Nat) : Profile := ⟨1, true, 0, 3, 0, List.replicate n ⟨0, .pot, 0, true⟩⟩
    (1 ≤ (p 1).channels.length ∧ (p 1).channels.length ≤ 6) ∧ (p 6).channels.length ≤ 6 := by
  decide +kernel

/-- BodiesRoundTrip: a record with six exceptions and every value at its greatest, and a STATUS. -/
theorem wit_BodiesRoundTrip :
    (let r := { board 65535 .inside with product := some 1048575, length := 16777215, volume := some 65535,
                                          exceptions := (List.range 6).map fun n => ⟨n, 255, 15⟩ }
     r.tag ≤ 65535 ∧ (r.product = some 1048575 ∧ 1048575 ≤ 1048575) ∧ r.length < 16777216 ∧
     (r.volume = some 65535 ∧ 65535 ≤ 65535) ∧ r.exceptions.length ≤ 6 ∧
     ∀ e ∈ r.exceptions, e.code ≤ 255 ∧ e.qualifier ≤ 255 ∧ e.station ≤ 255) ∧
    (let f := statusBody (bytes readyBody)
     f.station = .running ∧ f.readyFor = none ∧ f.queueCount ≤ 255 ∧ f.expectedCount ≤ 255 ∧
     f.highest = none ∧ f.pendingCount ≤ 7 ∧ f.requiredFlow ≤ 2000 ∧ f.hoodMax ≤ 2000 ∧
     f.measuredFlow ≤ 2000 ∧ f.discard ≤ 255 ∧ f.badCount ≤ 255) := by decide +kernel

/-! ### Points where two events meet -/

/-- RESET_RELEASE with the supply below 2.9 V leaves the station in reset (R208). -/
theorem test_release_needs_supply :
    (after .resetRelease (heldAt 2899)).loader.station = .inReset ∧
    (after .resetRelease (heldAt 2900)).loader.station = .loading := by decide +kernel

/-- A check of the level due with a quiet sample of the same millisecond taken first is void (R164, R165). -/
theorem test_overtaken_level_check :
    let s := { awaiting .levelCheck with pot := { run.pot with quiet := 3000, age := 240000 } }
    (after .levelCheckDue (after (.levelSample (.value 590)) s)).pot.check = run.pot.check ∧
    (after .levelCheckDue (after (.levelSample (.value 590)) s)).pot.age = 0 ∧
    (after .levelCheckDue s).pot.check.isSome = true := by decide +kernel

/-- A masked SETTLE LOST whose recovery has ended waits in the request set (R112, R191). -/
theorem test_masked_settle_lost :
    let s := { run with
      loader := { run.loader with image := some { img with mask := 0xFFFFFFFFFFFFFFFF } }
      alarm := run.alarm.setFlag 25 true }
    (finish (settleLost 1 s)).alarm.at 25 = .request ∧ s.cfg.masked 25 = true := by decide +kernel

/-- A changed gone mark of a code whose entry the list has lost enters nothing (R193, R199). -/
theorem test_unlisted_gone_mark :
    let s := reportLive 43 false (withCode 43 (.pending false) true)
    s.alarm.at 43 = .pending true ∧ s.alarm.list = [] := by decide +kernel

/-- R192 after each fired entry (R42): BOARD DEFAULTED, of level 0, is announced and done with before BOARD
MISSING is requested, and both are raised on the line. -/
theorem test_announced_between_entries :
    let s := { spraying with
      link := readyLine.link
      recipe := fetching.recipe
      heat := { run.heat with mainsMissing := false }
      board := { run.board with
        queue := [{ board 530 .inside with ref := .entry 31 }, board 412 .inbound] }
      pos := { run.pos with schedule :=
        [⟨530, .fluxStart, 0, 1⟩, ⟨412, .arrivalDeadline, 0, 1⟩] } }
    let t := after (.encoderPulse true) s
    t.alarm.at 56 = .idle ∧ t.alarm.at 31 = .pending false ∧
    (t.link.queue.any fun e => e.body == .alarmRaise 56 0 true false) = true ∧
    (t.link.queue.any fun e => e.body == .alarmRaise 31 5 false false) = true := by decide +kernel

/-- The end of a melt pause comes before the level sample of its millisecond (R169, the run of 9.4). -/
theorem test_pause_first :
    pauseFirst [.levelSample .openCircuit, .zeroCross, .meltPauseEnd] =
      [.meltPauseEnd, .levelSample .openCircuit, .zeroCross] := by decide

/-- 10.4: the view of the example, its flow sum and the reference it gives. -/
theorem test_fan_sum :
    let st (required hood : Nat) : StatusFields :=
      { statusBody (bytes readyBody) with requiredFlow := required, hoodMax := hood }
    let heard3 := (run.link.peers.set 2 (some ⟨st 180 0, 0⟩)).set 3 (some ⟨st 260 0, 999⟩)
    let heard4 := heard3.set 4 (some ⟨st 0 300, 1000⟩)
    let s := { run with
      loader := { run.loader with
        number := some 1
        image := some { img with
          functions := ⟨false, false, false, false, false, true⟩, members := 0x3E } }
      link := { run.link with peers := heard4 } }
    (formFan s).fume.fanSum = 890 ∧ (formFan s).fume.fanRef = 591 := by decide +kernel

end Sys2Proof.Tests
end

section
/-! The heat allotment (07): what the grants of a class sum to, what each number of the view demands, and the
own demand of a channel and of a class. -/
namespace Sys2Proof.Machine

/-! ### The grants of one class (R131, R132) -/

theorem grantOf_of_le {avail total : Nat} (d : Nat) (h : total ≤ avail) : grantOf avail total d = d :=
  if_pos h

theorem grantOf_of_lt {avail total : Nat} (d : Nat) (h : avail < total) :
    grantOf avail total d = d * avail / total := if_neg (Nat.not_le.mpr h)

/-- No entry is granted more than it demands. -/
theorem grantOf_le (avail total d : Nat) : grantOf avail total d ≤ d := by
  rcases Nat.lt_or_ge avail total with h | h
  · rw [grantOf_of_lt d h]
    exact Nat.div_le_of_le_mul (Nat.mul_comm total d ▸ Nat.mul_le_mul_left d (Nat.le_of_lt h))
  · exact Nat.le_of_eq (grantOf_of_le d h)

theorem grants_of_sum_le {avail : Nat} {ds : List Nat} (h : ds.sum ≤ avail) : grants avail ds = ds :=
  List.map_id'' (fun d => grantOf_of_le d h) ds

theorem grants_of_lt_sum {avail : Nat} {ds : List Nat} (h : avail < ds.sum) :
    grants avail ds = ds.map fun d => d * avail / ds.sum :=
  List.map_congr_left fun d _ => grantOf_of_lt d h

/-- The units lost to the floors only lower the sum. -/
theorem sum_map_mul_div_le (a t : Nat) (ds : List Nat) :
    (ds.map fun d => d * a / t).sum ≤ ds.sum * a / t := by
  induction ds with
  | nil => simp
  | cons d ds ih =>
    simp only [List.map_cons, List.sum_cons, Nat.add_mul]
    exact Nat.le_trans (Nat.add_le_add_left ih _) Nat.div_add_div_le_add_div

/-- The grants of a class stay within what there is for it. -/
theorem sum_grants_le (avail : Nat) (ds : List Nat) : (grants avail ds).sum ≤ avail := by
  rcases Nat.lt_or_ge avail ds.sum with h | h
  · rw [grants_of_lt_sum h]
    calc (ds.map fun d => d * avail / ds.sum).sum
        ≤ ds.sum * avail / ds.sum := sum_map_mul_div_le avail ds.sum ds
      _ = avail := Nat.mul_div_cancel_left avail (Nat.zero_lt_of_lt h)
  · rwa [grants_of_sum_le h]

theorem getD_grants_le (avail : Nat) (ds : List Nat) (n : Nat) :
    (grants avail ds).getD n 0 ≤ ds.getD n 0 := by
  rcases Nat.lt_or_ge n ds.length with h | h
  · simpa [grants, h] using grantOf_le avail ds.sum ds[n]
  · simp [grants, h]

variable (s : State)

/-- Class 1 is granted only what class 0 leaves of the supply limit. -/
theorem sum_grants_both_classes_le : (grants0 s).sum + (grants1 s).sum ≤ s.cfg.supplyLimit := by
  have class0 : (grants0 s).sum ≤ s.cfg.supplyLimit := sum_grants_le _ _
  have class1 : (grants1 s).sum ≤ s.cfg.supplyLimit - (grants0 s).sum := sum_grants_le _ _
  omega

/-! ### The demand view (R129, R130) -/

@[simp] theorem length_viewDemands (class0 : Bool) : (viewDemands class0 s).length = 16 := by
  simp [viewDemands]

theorem getElem?_viewDemands (class0 : Bool) {n : Nat} (h : n < 16) :
    (viewDemands class0 s)[n]? = some (viewDemand class0 s n) := by
  simp [viewDemands, h]

variable {s}

@[simp] theorem viewDemand_me (class0 : Bool) : viewDemand class0 s s.me = ownDemand class0 s := if_pos rfl

theorem viewDemand_of_heard {n : Nat} {d : Demand} (class0 : Bool) (hn : n ≠ s.me)
    (hd : s.allot.view.getD n none = some d) :
    viewDemand class0 s n =
      if d.age < 3 ∧ s.link.isolation ≠ 8 then (if class0 then d.d0 else d.d1)
      else (if class0 then d.m0 else d.m1) := by
  simp only [viewDemand, if_neg hn, hd, demandStaleAge, isolated, beq_iff_eq, ne_eq]

theorem viewDemand_of_unheard {n : Nat} (class0 : Bool) (hn : n ≠ s.me)
    (hd : s.allot.view.getD n none = none) :
    viewDemand class0 s n =
      if s.cfg.member n then
        ((s.cfg.assumed[n]?).map fun a => if class0 then a.class0 else a.class1).getD 0
      else 0 := by
  simp only [viewDemand, if_neg hn, hd]

theorem getD_grants_viewDemands_me_le (class0 : Bool) (avail : Nat) (h : s.me < 16) :
    (grants avail (viewDemands class0 s)).getD s.me 0 ≤ ownDemand class0 s :=
  calc (grants avail (viewDemands class0 s)).getD s.me 0
      ≤ (viewDemands class0 s).getD s.me 0 := getD_grants_le _ _ _
    _ = ownDemand class0 s := by simp [List.getD, getElem?_viewDemands s class0 h]

/-! ### The own demand (R126) -/

theorem channelDemand_of_channel {k : Nat} {c : Channel} (h : channel s k = some c) :
    channelDemand s k = ((s.cfg.channel k).rated * c.uc + 999) / 1000 := by
  simp only [channelDemand, h]

/-- Class 0 holds the POT channels. -/
theorem classChannels_true (img : Image) :
    img.classChannels true = (List.range 6).filter fun k => (img.channel k).fn == .pot := by
  rw [Image.classChannels, Image.usedChannels, List.filter_filter]
  congr 1
  funext k
  cases (img.channel k).fn <;> rfl

/-- Class 1 holds the channels of the two preheat functions. -/
theorem classChannels_false (img : Image) :
    img.classChannels false = (List.range 6).filter fun k => (img.channel k).fn.preheat := by
  rw [Image.classChannels, Image.usedChannels, List.filter_filter]
  congr 1
  funext k
  cases (img.channel k).fn <;> rfl

end Sys2Proof.Machine
end

section
open Sys2Proof Sys2Proof.Machine

/-- Settles O27: both classes take one rule, class 0 from the supply limit and class 1 from what class 0
leaves, so the bounds of `grants` hold for each. -/
theorem grantsWithinTheSupplyLimit : Obligations.GrantsWithinTheSupplyLimit := by
  refine ⟨fun s => ⟨grants_of_sum_le, grants_of_lt_sum, sum_grants_le _ _, grants_of_sum_le,
    grants_of_lt_sum, sum_grants_both_classes_le s, fun hme =>
      ⟨getD_grants_viewDemands_me_le true _ hme, getD_grants_viewDemands_me_le false _ hme⟩⟩, ?view,
    fun s => ⟨fun c => length_viewDemands s c, ?channel, ?pot, ?preheat⟩⟩
  case view =>
    intro s c n hn
    rw [getElem?_viewDemands s c hn]
    by_cases own : n = s.me
    · rw [if_pos own, own, viewDemand_me]
    · rw [if_neg own]
      cases entry : s.allot.view.getD n none with
      | some d => rw [viewDemand_of_heard c own entry]
      | none => rw [viewDemand_of_unheard c own entry]
  case channel =>
    intro k c hc
    rw [channelDemand_of_channel hc]
    omega
  case pot => rw [← classChannels_true, ownDemand]
  case preheat => rw [← classChannels_false, ownDemand]

end

section
/-! The flow-meter pulse (08): what FLOW_METER_PULSE does where the Flux Controller takes part. -/
namespace Sys2Proof.Machine

variable {s : State}

/-- The pulse touches the held series and nothing else (R151). -/
theorem exec_flowMeterPulse_of_fluxActs (acts : fluxActs s = true) :
    exec .flowMeterPulse s =
      .next { s with flux := { s.flux with series := s.flux.series.map Series.meterPulse } } :=
  if_pos acts

/-- A held series counts the pulse, whether OPEN or DRAINING. -/
theorem exec_flowMeterPulse_of_series {r : Series} (acts : fluxActs s = true)
    (held : s.flux.series = some r) :
    exec .flowMeterPulse s = .next { s with flux := { s.flux with series := some r.meterPulse } } := by
  rw [exec_flowMeterPulse_of_fluxActs acts, held, Option.map_some]

/-- Without a series the one field the pulse writes keeps its value. -/
theorem exec_flowMeterPulse_of_no_series (acts : fluxActs s = true) (none_held : s.flux.series = none) :
    exec .flowMeterPulse s = .next s := by
  have kept : s.flux.series.map Series.meterPulse = s.flux.series := by rw [none_held, Option.map_none]
  rw [exec_flowMeterPulse_of_fluxActs acts, kept]

end Sys2Proof.Machine
end

section
open Sys2Proof Sys2Proof.Machine

/-- Settles O43: by whether a series is held; the drain count of a held one plays no part. -/
theorem flowMeterPulseCounts : Obligations.FlowMeterPulseCounts := fun _ acts =>
  ⟨fun _ held => exec_flowMeterPulse_of_series acts held, exec_flowMeterPulse_of_no_series acts⟩

end

section
/-! What every operation keeps that is no reset and no encoder pulse: the waiting commands, the counter and the
tally, the supply, the bounds of queue, schedule and line alarm list, and the levels of the pending codes. One lemma
for each operation of the model, in the order of the definitions; the invariants O56 and O57, the frames O2 and
O28, and the gate's part of O25 are read off it. -/
namespace Sys2Proof.Machine

/-- A list of one value holds it at every place, also past its end. -/
theorem getD_replicate_same {α : Type} (n c : Nat) (d : α) : (List.replicate n d).getD c d = d := by
  rw [List.getD_eq_getElem?_getD, List.getElem?_replicate]
  split <;> rfl

/-- Two choices agree when their tests and their branches do, however the tests are decided. -/
theorem ite_of_iff {α : Type} {p q : Prop} [Decidable p] [Decidable q] {x y u v : α} (h : p ↔ q) (hx : x = u) (hy : y = v) :
    (if p then x else y) = if q then u else v := by
  by_cases hp : p
  · rw [if_pos hp, if_pos (h.mp hp), hx]
  · rw [if_neg hp, if_neg fun hq => hp (h.mpr hq), hy]

/-! ### The alarm sets and the line alarm list -/

/-- Two pending codes of the alarm unit have different levels (R190). -/
def AlarmUnit.distinct (a : AlarmUnit) : Prop :=
  ∀ c d, c < 64 → d < 64 → (∃ g, a.at c = .pending g) → (∃ g, a.at d = .pending g) →
    levelOf c = levelOf d → c = d

/-- Every code pending in `b` is pending in `a`. -/
def AlarmUnit.PendingIn (b a : AlarmUnit) : Prop := ∀ c, (∃ g, b.at c = .pending g) → ∃ g, a.at c = .pending g

theorem AlarmUnit.PendingIn.distinct {a b : AlarmUnit} (h : b.PendingIn a) (ha : a.distinct) : b.distinct :=
  fun c d hc hd pc pd => ha c d hc hd (h c pc) (h d pd)

/-- What the alarm unit keeps at every operation. -/
structure AlarmKept (a b : AlarmUnit) : Prop where
  listed : a.list.length ≤ 32 → b.list.length ≤ 32
  levels : a.distinct → b.distinct

theorem AlarmKept.refl (a : AlarmUnit) : AlarmKept a a := ⟨id, id⟩

theorem AlarmKept.trans {a b c : AlarmUnit} (h : AlarmKept a b) (k : AlarmKept b c) : AlarmKept a c :=
  ⟨k.listed ∘ h.listed, k.levels ∘ h.levels⟩

/-- An operation on the list alone that keeps its bound. -/
theorem AlarmKept.of_place {a b : AlarmUnit} (hp : b.place = a.place)
    (hl : a.list.length ≤ 32 → b.list.length ≤ 32) : AlarmKept a b := by
  have same : ∀ c, b.at c = a.at c := fun c => by simp [AlarmUnit.at, hp]
  exact ⟨hl, AlarmUnit.PendingIn.distinct fun c h => by rwa [same c] at h⟩

/-- Where a code stands after a move of another code or of itself. -/
theorem AlarmUnit.at_move_cases (a : AlarmUnit) (c d : Nat) (p : Place) :
    (a.move c p).at d = a.at d ∨ (d = c ∧ (a.move c p).at d = p) := by
  by_cases h : d = c
  · subst h
    by_cases hl : d < a.place.length
    · exact .inr ⟨rfl, at_move hl⟩
    · left; rw [AlarmUnit.move, List.set_eq_of_length_le (Nat.le_of_not_lt hl)]
  · exact .inl (at_move_ne h)

/-- A move out of the pending set, or of a code that is pending already. -/
theorem AlarmKept.move {a : AlarmUnit} {c : Nat} {p : Place}
    (h : (∃ g, p = .pending g) → ∃ g, a.at c = .pending g) : AlarmKept a (a.move c p) := by
  refine ⟨id, AlarmUnit.PendingIn.distinct fun d hd => ?_⟩
  rcases a.at_move_cases c d p with e | ⟨rfl, e⟩ <;> rw [e] at hd
  · exact hd
  · exact h (hd.imp fun _ h => h)

theorem AlarmKept.setFlag (a : AlarmUnit) (c : Nat) (v : Bool) : AlarmKept a (a.setFlag c v) :=
  .of_place rfl id

theorem AlarmKept.strike (a : AlarmUnit) (p : LineEntry → Bool) : AlarmKept a (a.strike p) :=
  .of_place rfl fun h => Nat.le_trans (List.length_filter_le _ _) h

theorem AlarmKept.listAck (a : AlarmUnit) (o c : Nat) : AlarmKept a (a.listAck o c) :=
  .of_place rfl fun h => by simpa [AlarmUnit.listAck] using h

theorem AlarmKept.listGone (a : AlarmUnit) (o c : Nat) (g : Bool) : AlarmKept a (a.listGone o c g) :=
  .of_place rfl fun h => by simpa using h

theorem AlarmKept.appear (img : Image) (c : Nat) (a : AlarmUnit) : AlarmKept a (a.appear img c) := by
  unfold AlarmUnit.appear
  split
  · split
    · exact .refl a
    · exact .move fun ⟨_, h⟩ => nomatch h
  · exact .refl a

theorem lt_of_lastIndex {p : LineEntry → Bool} {l : List LineEntry} {i j : Nat} {best : Option Nat}
    (hb : ∀ k, best = some k → k < i + l.length) (h : lastIndex p i best l = some j) : j < i + l.length := by
  induction l generalizing i best with
  | nil => exact hb j h
  | cons x xs ih =>
    simp only [List.length_cons] at hb ⊢
    have := ih (i := i + 1) (fun k hk => by
      split at hk
      · cases hk; omega
      · have := hb k hk; omega) h
    omega

theorem displaced_lt {level : Nat} {l : List LineEntry} {i : Nat} (h : displaced level l = some i) :
    i < l.length := by
  have found : ∀ {p : LineEntry → Bool} {j : Nat}, lastIndex p 0 none l = some j → j < l.length := fun hj => by
    simpa using lt_of_lastIndex (by simp) hj
  unfold displaced at h
  split at h
  · exact found h
  · split at h
    · cases h
    · split at h
      · split at h
        · cases h; exact found ‹_›
        · exact found h
      · cases h

theorem place_enter (e : LineEntry) (a : AlarmUnit) : (a.enter e).place = a.place := by
  unfold AlarmUnit.enter
  repeat' split
  all_goals rfl

theorem length_enter {e : LineEntry} {a : AlarmUnit} (h : a.list.length ≤ 32) :
    (a.enter e).list.length ≤ 32 := by
  unfold AlarmUnit.enter
  split
  · simpa using h
  · split
    · simp only [length_placeLine]; omega
    · split
      · have := displaced_lt ‹_›
        simp only [length_placeLine, List.length_eraseIdx, this, if_true]; omega
      · exact h

theorem AlarmKept.enter (a : AlarmUnit) (e : LineEntry) : AlarmKept a (a.enter e) :=
  .of_place (place_enter e a) length_enter

/-! ### The relation -/

/-- What every operation keeps that is no reset and no encoder pulse. -/
structure Keeps (s t : State) : Prop where
  pending : t.pending = s.pending
  counter : t.pos.counter = s.pos.counter
  tally   : t.pos.tally = s.pos.tally
  supply  : t.pins.supply = s.pins.supply
  inReset : s.loader.station = .inReset → t.loader.station = .inReset
  frames  : s.link.queue.length ≤ 12 → t.link.queue.length ≤ 12
  events  : s.pos.schedule.length ≤ 48 → t.pos.schedule.length ≤ 48
  alarms  : AlarmKept s.alarm t.alarm
  period  : s.link.statusAge = some 0 → t.link.statusAge = some 0

/-- `Keeps`, and no gate opened. -/
structure KeepsShut (s t : State) : Prop extends Keeps s t where
  gate : s.board.gate = none → t.board.gate = none

theorem Keeps.refl (s : State) : Keeps s s := ⟨rfl, rfl, rfl, rfl, id, id, id, .refl _, id⟩

theorem Keeps.trans {s t u : State} (h : Keeps s t) (k : Keeps t u) : Keeps s u where
  pending := k.pending.trans h.pending
  counter := k.counter.trans h.counter
  tally := k.tally.trans h.tally
  supply := k.supply.trans h.supply
  inReset := k.inReset ∘ h.inReset
  frames := k.frames ∘ h.frames
  events := k.events ∘ h.events
  alarms := h.alarms.trans k.alarms
  period := k.period ∘ h.period

namespace KeepsShut

theorem refl (s : State) : KeepsShut s s := ⟨.refl s, id⟩

theorem trans {s t u : State} (h : KeepsShut s t) (k : KeepsShut t u) : KeepsShut s u :=
  ⟨h.toKeeps.trans k.toKeeps, k.gate ∘ h.gate⟩

/-- `trans`, the later operation named first. -/
theorem after {s t u : State} (k : KeepsShut t u) (h : KeepsShut s t) : KeepsShut s u := h.trans k

theorem ite {c : Prop} [Decidable c] {s t u : State} (ht : c → KeepsShut s t) (hu : ¬c → KeepsShut s u) :
    KeepsShut s (if c then t else u) := by
  split
  · exact ht ‹_›
  · exact hu ‹_›

/-- A change to the alarm unit alone. -/
theorem of_alarm {s : State} {a : AlarmUnit} (h : AlarmKept s.alarm a) : KeepsShut s { s with alarm := a } :=
  ⟨{ Keeps.refl s with alarms := h }, id⟩

end KeepsShut

theorem Keeps.ite {c : Prop} [Decidable c] {s t u : State} (ht : c → Keeps s t) (hu : ¬c → Keeps s u) :
    Keeps s (if c then t else u) := by
  split
  · exact ht ‹_›
  · exact hu ‹_›

/-- Two states that agree in all that is kept. -/
theorem keepsShut_of_same {s t : State} (h1 : t.pending = s.pending) (h2 : t.pos = s.pos)
    (h3 : t.pins.supply = s.pins.supply) (h4 : t.loader.station = s.loader.station) (h5 : t.link.queue = s.link.queue)
    (h6 : t.alarm = s.alarm) (h7 : t.board.gate = s.board.gate)
    (h8 : t.link.statusAge = s.link.statusAge) : KeepsShut s t := by
  refine ⟨⟨h1, by rw [h2], by rw [h2], h3, ?_, ?_, ?_, ?_, ?_⟩, ?_⟩
  · rw [h4]; exact id
  · rw [h5]; exact id
  · rw [h2]; exact id
  · rw [h6]; exact .refl _
  · rw [h8]; exact id
  · rw [h7]; exact id

end Sys2Proof.Machine
end

section
/-! `KeepsShut` of the operations of the blocks, in the order of the definitions. -/
namespace Sys2Proof.Machine

/-! ### Queueing and the alarm machinery -/

theorem keeps_enqueue (b : Block) (x : BitVec 5) (y : Body) (s : State) : KeepsShut s (enqueue b x y s) := by
  have bound := length_enqueue b x y s
  obtain ⟨q, d, o, n, e⟩ := enqueue_eq b x y s
  rw [e] at bound ⊢
  exact ⟨{ Keeps.refl s with frames := bound }, id⟩

theorem keeps_appearance (c : Nat) (s : State) : KeepsShut s (appearance c s) := .of_alarm (.appear _ _ _)

theorem keeps_recoveryEnds (c : Nat) (s : State) : KeepsShut s (recoveryEnds c s) := .of_alarm (.setFlag _ _ _)

theorem keeps_settleLost (k : Nat) (s : State) : KeepsShut s (settleLost k s) :=
  (keeps_recoveryEnds _ s).trans (keeps_appearance _ _)

theorem keeps_queueRaise (c : Nat) (i g : Bool) (s : State) : KeepsShut s (queueRaise c i g s) :=
  keeps_enqueue _ _ _ s

theorem keeps_announce (c : Nat) (i g : Bool) (s : State) : KeepsShut s (announce c i g s) :=
  (KeepsShut.of_alarm (.enter _ _)).trans (keeps_queueRaise _ _ _ _)

theorem keeps_remark {c : Nat} {g : Bool} {s : State} (h : ∃ g, s.alarm.at c = .pending g) :
    KeepsShut s (remark c g s) :=
  (KeepsShut.of_alarm ((AlarmKept.move fun _ => h).trans (.listGone _ _ _ _))).trans (keeps_queueRaise _ _ _ _)

theorem keeps_clearCode (c : Nat) (g : Bool) (s : State) : KeepsShut s (clearCode c g s) :=
  (KeepsShut.of_alarm ((AlarmKept.move fun ⟨_, h⟩ => nomatch h).trans (.strike _ _))).trans (keeps_enqueue _ _ _ _)

theorem keeps_modChannel (k : Nat) (f : Channel → Channel) (s : State) : KeepsShut s (modChannel k f s) :=
  keepsShut_of_same rfl rfl rfl rfl rfl rfl rfl rfl

theorem keeps_rederive (k : Nat) (s : State) : KeepsShut s (rederive k s) := by
  unfold rederive
  split
  · exact .refl s
  · exact .ite (fun _ => (keeps_modChannel _ _ s).trans (keeps_settleLost _ _)) fun _ => keeps_modChannel _ _ s

theorem keeps_foldl {α : Type} {f : State → α → State} (h : ∀ s a, KeepsShut s (f s a)) (l : List α) (s : State) :
    KeepsShut s (l.foldl f s) := by
  induction l generalizing s with
  | nil => exact .refl s
  | cons a as ih => exact (h s a).trans (ih _)

theorem keeps_rederiveAll (s : State) : KeepsShut s (rederiveAll s) :=
  keeps_foldl (fun s k => keeps_rederive k s) _ s

theorem keeps_leaveInService (c : Nat) (s : State) : KeepsShut s (leaveInService c s) :=
  (keeps_clearCode c false s).trans
    (.ite (fun _ => (keeps_modChannel _ _ _).trans (keeps_rederive _ _)) fun _ => .refl _)

theorem keeps_setFlag (c : Nat) (v : Bool) (s : State) :
    KeepsShut s { s with alarm := s.alarm.setFlag c v } := .of_alarm (.setFlag _ _ _)

theorem keeps_moveOut {c : Nat} {p : Place} {s : State} (h : ∀ g, p ≠ .pending g) :
    KeepsShut s { s with alarm := s.alarm.move c p } := .of_alarm (.move fun ⟨g, e⟩ => absurd e (h g))

theorem keeps_conditionStarts (c : Nat) (s : State) : KeepsShut s (conditionStarts c s) := by
  have flagged := keeps_setFlag c true s
  unfold conditionStarts
  split
  · exact flagged.trans (keeps_moveOut nofun)
  · rename_i h; exact flagged.trans (keeps_remark ⟨true, h⟩)
  all_goals exact flagged

theorem keeps_conditionEnds (c : Nat) (s : State) : KeepsShut s (conditionEnds c s) := by
  have flagged := keeps_setFlag c false s
  unfold conditionEnds
  split
  · exact flagged.trans (keeps_moveOut nofun)
  · rename_i h; exact flagged.trans (keeps_remark ⟨false, h⟩)
  · exact flagged.trans (keeps_leaveInService _ _)
  all_goals exact flagged

theorem keeps_reportLive (c : Nat) (v : Bool) (s : State) : KeepsShut s (reportLive c v s) :=
  .ite (fun _ => .refl s) fun _ => .ite (fun _ => keeps_conditionStarts c s) fun _ => keeps_conditionEnds c s

theorem keeps_reportRecovery (c : Nat) (v : Bool) (s : State) : KeepsShut s (reportRecovery c v s) := by
  have flagged := keeps_setFlag c true s
  refine .ite (fun _ => .refl s) fun _ => .ite (fun _ => keeps_recoveryEnds c s) fun _ => ?_
  simp only []
  split
  · exact .ite (fun _ => flagged.trans (keeps_moveOut nofun)) fun _ => flagged
  · exact flagged.trans (keeps_leaveInService _ _)
  all_goals exact flagged

theorem keeps_joinInService (c : Nat) (s : State) : KeepsShut s (joinInService c s) := by
  have moved : KeepsShut s { s with alarm := s.alarm.move c .inService } := keeps_moveOut nofun
  exact .ite (fun _ => (moved.trans (keeps_setFlag c false _)).trans (keeps_modChannel _ _ _)) fun _ => moved

theorem keeps_settleInService (c : Nat) (s : State) : KeepsShut s (settleInService c s) := by
  refine .ite (fun _ => .refl s) fun _ => ?_
  split
  · exact keeps_leaveInService c s
  · exact .ite (fun _ => keeps_leaveInService c s) fun _ => .refl s
  · exact .refl s

theorem keeps_ackOwn (c : Nat) (s : State) : KeepsShut s (ackOwn c s) := by
  unfold ackOwn
  split
  · exact .ite (fun _ => keeps_clearCode _ _ s)
      fun _ => (keeps_joinInService c s).trans (keeps_settleInService _ _)
  all_goals exact .refl s

theorem keeps_listAck (o c : Nat) (s : State) : KeepsShut s { s with alarm := s.alarm.listAck o c } :=
  .of_alarm (.listAck _ _ _)

theorem keeps_applyAck (o : Nat) (c : Option Nat) (s : State) : KeepsShut s (applyAck o c s) := by
  unfold applyAck
  split
  · exact .ite (fun _ => (keeps_listAck o _ s).trans (keeps_ackOwn _ _)) fun _ => keeps_listAck o _ s
  · have listed : KeepsShut s (match s.alarm.highestListed o with
        | some c => { s with alarm := s.alarm.listAck o c }
        | none => s) := by
      split
      · exact keeps_listAck o _ s
      · exact .refl s
    refine .ite (fun _ => ?_) fun _ => listed
    split
    · exact listed.trans (keeps_ackOwn _ _)
    · exact listed

/-! ### Recipes -/

theorem keeps_recipe (s : State) (r : RecipeStore) : KeepsShut s { s with recipe := r } :=
  keepsShut_of_same rfl rfl rfl rfl rfl rfl rfl rfl

theorem keeps_releaseRef (r : Ref) (s : State) : KeepsShut s (releaseRef r s) := keeps_recipe s _

theorem keeps_startFetch (i : Nat) (s : State) : KeepsShut s (startFetch i s) := by
  unfold startFetch
  split
  · exact .refl s
  · exact .ite (fun _ => keeps_recipe s _) fun _ => (keeps_recipe s _).trans (keeps_enqueue _ _ _ _)

theorem keeps_joinUnentered (p i : Nat) (s : State) : KeepsShut s (joinUnentered p i s) :=
  keepsShut_of_same rfl rfl rfl rfl rfl rfl rfl rfl

theorem keeps_enterProduct (p : Nat) (s : State) : KeepsShut s (enterProduct p s).2 := by
  have room := keeps_recipe s s.recipe.roomForProduct.2
  unfold enterProduct
  simp only []
  split
  · exact room.trans (keeps_appearance _ _)
  · exact ((room.trans (keeps_recipe _ _)).trans (keeps_joinUnentered _ _ _)).trans (keeps_startFetch _ _)

theorem keeps_resolve (p : Product) (s : State) : KeepsShut s (resolve p s).2 := by
  unfold resolve
  split
  · exact .refl s
  · split
    · exact .refl s
    · split
      · exact keeps_enterProduct _ s
      · split
        · exact .ite (fun _ => (keeps_recipe s _).trans (keeps_startFetch _ _)) fun _ => keeps_recipe s _
        · exact keeps_recipe s _

theorem keeps_mapRecord (t : Tag) (f : BoardRecord → BoardRecord) (s : State) : KeepsShut s (mapRecord t f s) :=
  keepsShut_of_same rfl rfl rfl rfl rfl rfl rfl rfl

theorem keeps_addException (t : Tag) (c q : Nat) (s : State) : KeepsShut s (addException t c q s) :=
  keepsShut_of_same rfl rfl rfl rfl rfl rfl rfl rfl

theorem keeps_firstUse (t : Tag) (s : State) : KeepsShut s (firstUse t s) := by
  unfold firstUse
  split
  · exact .refl s
  · exact .ite (fun _ => (((keeps_releaseRef _ s).trans (keeps_mapRecord _ _ _)).trans
      (keeps_addException _ _ _ _)).trans (keeps_appearance _ _)) fun _ => .refl s

theorem keeps_storeAt (i : Nat) (p : Page) (rev : Nat) (s : State) : KeepsShut s (storeAt i p rev s).2 := by
  unfold storeAt
  split
  · exact .refl s
  · split
    · split
      · exact keeps_recipe s _
      · exact .refl s
    · simp only []
      split
      · exact (keeps_recipe s _).trans (keeps_appearance _ _)
      · exact keeps_recipe s _

theorem keeps_storeAll (p : Page) (rev : Nat) (l : List Nat) (r : Bool × State) :
    KeepsShut r.2 (storeAll p rev l r).2 := by
  induction l generalizing r with
  | nil => exact .refl _
  | cons i is ih => exact (ih (_, _)).after (keeps_storeAt i p rev r.2)

/-! ### Extraction, pumps and expiries -/

theorem keeps_fume (s : State) (f : Fume) : KeepsShut s { s with fume := f } :=
  keepsShut_of_same rfl rfl rfl rfl rfl rfl rfl rfl

theorem keeps_overtake (t : OwnTimer) (s : State) : KeepsShut s (overtake t s) := by
  obtain ⟨e, h⟩ := overtake_eq t s
  rw [h]; exact keepsShut_of_same rfl rfl rfl rfl rfl rfl rfl rfl

theorem keeps_riseRestarted (s : State) : KeepsShut s (riseRestarted s) :=
  .ite (fun _ => keeps_overtake _ s) fun _ => .refl s

theorem keeps_formRequired (s : State) : KeepsShut s (formRequired s) :=
  .ite (fun _ => (keeps_fume s _).trans (keeps_riseRestarted _)) fun _ => .refl s

theorem keeps_cutPulse (s : State) : KeepsShut s (cutPulse s) := keepsShut_of_same rfl rfl rfl rfl rfl rfl rfl rfl

theorem keeps_provenChanged (was : Bool) (s : State) : KeepsShut s (provenChanged was s) :=
  .ite (fun _ => .refl s) fun _ => .ite (fun _ => keeps_fume s _) fun _ =>
    .ite (fun _ => (keeps_cutPulse s).trans (keeps_fume _ _)) fun _ => keeps_cutPulse s

theorem keeps_formAdopted (s : State) : KeepsShut s (formAdopted s) :=
  .ite (fun _ => .refl s) fun _ => (keeps_fume s _).trans (keeps_provenChanged _ _)

theorem keeps_setIsolation (n : Nat) (s : State) : KeepsShut s (setIsolation n s) := by
  obtain ⟨nz, ad, gr, gz, h⟩ := setIsolation_eq n s
  rw [h]; exact keepsShut_of_same rfl rfl rfl rfl rfl rfl rfl rfl

theorem keeps_formFan (s : State) : KeepsShut s (formFan s) := .ite (fun _ => keeps_fume s _) fun _ => .refl s

theorem keeps_touchPumps (s : State) : KeepsShut s (touchPumps s) :=
  .ite (fun _ => keepsShut_of_same rfl rfl rfl rfl rfl rfl rfl rfl) fun _ => .refl s

/-! ### Boards -/

/-- A schedule that loses entries keeps its bound. -/
theorem keeps_fewerEvents {s t : State} (same : KeepsShut { s with pos := { s.pos with schedule := t.pos.schedule } } t)
    (fewer : t.pos.schedule.length ≤ s.pos.schedule.length) : KeepsShut s t :=
  ⟨⟨same.pending, same.counter, same.tally, same.supply, same.inReset, same.frames, fun h => Nat.le_trans fewer h,
    same.alarms, same.period⟩, same.gate⟩

theorem keeps_markHandled (t : Tag) (s : State) : KeepsShut s (markHandled t s) :=
  .ite (fun _ => .refl s) fun _ => keepsShut_of_same rfl rfl rfl rfl rfl rfl rfl rfl

theorem keeps_closeSeries (s : State) : KeepsShut s (closeSeries s) := by
  unfold closeSeries
  split
  · exact .refl s
  · exact .ite (fun _ => .refl s) fun _ =>
      keeps_fewerEvents (keepsShut_of_same rfl rfl rfl rfl rfl rfl rfl rfl) (List.length_filter_le _ _)

theorem keeps_meterSeries (s : State) : KeepsShut s (meterSeries s) := by
  unfold meterSeries
  split
  · exact .refl s
  · rename_i r _
    have volume : KeepsShut s (if 0 < r.fired then
        formRequired (mapRecord r.tag (fun b => { b with volume := some r.flow }) s)
        else addException r.tag xFluxSkipped 0 s) :=
      .ite (fun _ => (keeps_mapRecord _ _ s).trans (keeps_formRequired _)) fun _ => keeps_addException _ _ _ s
    simp only []
    generalize (if 0 < r.fired then formRequired (mapRecord r.tag (fun b => { b with volume := some r.flow }) s)
      else addException r.tag xFluxSkipped 0 s) = s1 at volume ⊢
    have starved : KeepsShut s (if r.starved then addException r.tag xFluxStarved 0 s1 else s1) :=
      .ite (fun _ => volume.trans (keeps_addException _ _ _ _)) fun _ => volume
    generalize (if r.starved then addException r.tag xFluxStarved 0 s1 else s1) = s2 at starved ⊢
    have emptied : KeepsShut s { s2 with flux := { noFlowCount s2.flux r with series := none } } :=
      starved.trans (keepsShut_of_same rfl rfl rfl rfl rfl rfl rfl rfl)
    exact .ite (fun _ => emptied.trans (keeps_appearance _ _)) fun _ => emptied

theorem keeps_fluxRemoval (t : Tag) (s : State) : KeepsShut s (fluxRemoval t s) := by
  have handled : ∀ u : State, KeepsShut u
      { u with flux := { u.flux with handled := u.flux.handled.filter fun x => x != t } } :=
    fun u => keepsShut_of_same rfl rfl rfl rfl rfl rfl rfl rfl
  unfold fluxRemoval
  refine .trans ?_ (handled _)
  split
  · exact .ite (fun _ => keeps_closeSeries s) fun _ => .refl s
  · exact .refl s

theorem keeps_potRemoval (t : Tag) (s : State) : KeepsShut s (potRemoval t s) :=
  (keeps_touchPumps _).after (keepsShut_of_same rfl rfl rfl rfl rfl rfl rfl rfl)

theorem keeps_removeRecord (t : Tag) (s : State) : KeepsShut s (removeRecord t s) := by
  unfold removeRecord
  split
  · exact .refl s
  · refine .trans (.trans (.trans ?_ (keeps_fluxRemoval _ _)) (keeps_potRemoval _ _)) (keeps_formRequired _)
    exact keeps_fewerEvents (keepsShut_of_same rfl rfl rfl rfl rfl rfl rfl rfl) (List.length_filter_le _ _)

theorem keeps_removeWithExit (t : Tag) (c : ExitCause) (s : State) : KeepsShut s (removeWithExit t c s) := by
  unfold removeWithExit
  split
  · exact .refl s
  · exact (keeps_removeRecord t s).trans (keeps_enqueue _ _ _ _)

/-- A change to the tracker that leaves the gate. -/
theorem keeps_board {s : State} {b : Tracker} (h : b.gate = s.board.gate) : KeepsShut s { s with board := b } :=
  keepsShut_of_same rfl rfl rfl rfl rfl rfl h rfl

theorem keeps_offerBoard (t : Tag) (s : State) : KeepsShut s (offerBoard t s) := by
  unfold offerBoard
  split
  · exact (keeps_enqueue _ _ _ _).after (keeps_board rfl)
  · exact .refl s

theorem keeps_answerOffer (t : Tag) (a : Answer) (s : State) : KeepsShut s (answerOffer t a s) := by
  have noted : KeepsShut s { s with board := { s.board with
      handoff := { s.board.handoff with outstanding := false, last := some a } } } := keeps_board rfl
  refine .ite (fun _ => .refl s) fun _ => ?_
  simp only []
  split
  · exact .ite (fun _ => noted.trans (keeps_removeRecord _ _)) fun _ => noted.trans (keeps_mapRecord _ _ _)
  · exact (noted.trans (keeps_removeWithExit _ _ _)).trans (keeps_appearance _ _)
  all_goals
    exact .ite (fun _ => noted.trans (keeps_removeWithExit _ _ _)) fun _ => noted.trans (keeps_mapRecord _ _ _)

theorem keeps_refusedKind (t : Tag) (k : EventKind) (s : State) : KeepsShut s (refusedKind t k s) := by
  cases k
  case fluxStart =>
    exact .ite (fun _ => .refl s) fun _ => (keeps_addException _ _ _ s).trans (keeps_markHandled _ _)
  case waveRaise => exact keeps_addException _ _ _ s
  all_goals exact .refl s

theorem keeps_insertEvent (t : Tag) (k : EventKind) (q : Nat) (due : Pos) (s : State) :
    KeepsShut s (insertEvent t k q due s).2 := by
  unfold insertEvent
  split
  · exact ⟨{ Keeps.refl s with events := length_scheduleInsert ‹_› }, id⟩
  · exact (keeps_addException _ _ _ s).trans (keeps_refusedKind _ _ _)

theorem keeps_insertAll (t : Tag) (es : List (EventKind × Nat × Pos)) (s : State) : KeepsShut s (insertAll t es s) := by
  induction es generalizing s with
  | nil => exact .refl s
  | cons e es ih => exact (keeps_insertEvent t e.1 e.2.1 e.2.2 s).trans (ih _)

theorem keeps_makeStray (lead : Pos) (s : State) : KeepsShut s (makeStray lead s) := by
  refine .trans (keeps_appearance aStrayBoard s) (.ite (fun _ => .refl _) fun _ => ?_)
  exact (keeps_insertAll _ _ _).after ((keeps_addException _ _ _ _).after (keeps_board rfl))

theorem keeps_shutGate (s : State) : KeepsShut s { s with board := { s.board with gate := none } } :=
  ⟨{ Keeps.refl s with }, fun _ => rfl⟩

theorem keeps_entryLeading (lead : Pos) (s : State) : KeepsShut s (entryLeading lead s) := by
  unfold entryLeading
  simp only []
  refine .trans (keeps_shutGate s) ?_
  split
  · exact keeps_makeStray lead _
  · exact (keeps_insertAll _ _ _).after (keeps_board rfl)

theorem keeps_setSpacing (p : Pos) (s : State) : KeepsShut s (setSpacing p s) :=
  .ite (fun _ => keeps_board rfl) fun _ => .refl s

theorem keeps_entryTrailing (p : Pos) (s : State) : KeepsShut s (entryTrailing p s) := by
  unfold entryTrailing
  simp only []
  refine .trans (keeps_setSpacing p s) ?_
  split
  · exact .refl _
  · exact (keeps_insertAll _ _ _).after (keeps_mapRecord _ _ _)

theorem keeps_exitLeading (s : State) : KeepsShut s (exitLeading s) := by
  unfold exitLeading
  split
  · exact .refl s
  · exact .ite (fun _ => .refl s) fun _ => .ite (fun _ => keeps_mapRecord _ _ s) fun _ =>
      (keeps_offerBoard _ _).after (keeps_board rfl)

theorem keeps_exitTrailing (s : State) : KeepsShut s (exitTrailing s) := by
  unfold exitTrailing
  split
  · exact keeps_removeWithExit _ _ s
  · split
    · exact .refl s
    · split
      · exact .refl s
      · exact .ite (fun _ => keeps_removeRecord _ s) fun _ => .ite (fun _ => keeps_removeWithExit _ _ s) fun _ =>
          .ite (fun _ => keeps_board rfl) fun _ => .refl s

theorem keeps_arrivalDeadline (t : Tag) (s : State) : KeepsShut s (arrivalDeadline t s) := by
  have shut : KeepsShut s (if s.board.gate = some t then { s with board := { s.board with gate := none } } else s) :=
    .ite (fun _ => keeps_shutGate s) fun _ => .refl s
  unfold arrivalDeadline
  simp only []
  generalize (if s.board.gate = some t then { s with board := { s.board with gate := none } } else s) = s1 at shut ⊢
  refine shut.trans ?_
  split
  · exact .refl _
  · exact .ite (fun _ => (keeps_removeWithExit _ _ _).trans (keeps_appearance _ _)) fun _ => .refl _

theorem keeps_exitDeadline (t : Tag) (s : State) : KeepsShut s (exitDeadline t s) := by
  unfold exitDeadline
  split
  · exact .refl s
  · exact .ite (fun _ => (keeps_removeWithExit _ _ s).trans (keeps_appearance _ _)) fun _ => .refl s

/-! ### STATUS, announcements and the end of a command -/

/-- A status period begun. -/
theorem keeps_periodBegins (s : State) : KeepsShut s { s with link := { s.link with statusAge := some 0 } } :=
  ⟨{ Keeps.refl s with period := fun _ => rfl }, id⟩

theorem keeps_queueStatus (m : Bool) (s : State) : KeepsShut s (queueStatus m s) := by
  have queued : KeepsShut s (enqueue .link allTarget (.status (gatherStatus m (computeBlockers s))) (computeBlockers s)) :=
    (keeps_enqueue _ _ _ _).after (keeps_board rfl)
  exact (keeps_overtake _ _).after (queued.trans (keeps_periodBegins _))

theorem queueStatus_statusAge (m : Bool) (s : State) : (queueStatus m s).link.statusAge = some 0 := by
  unfold queueStatus
  obtain ⟨e, h⟩ := overtake_eq .statusPeriod { enqueue .link allTarget (.status (gatherStatus m (computeBlockers s)))
    (computeBlockers s) with link := { (enqueue .link allTarget (.status (gatherStatus m (computeBlockers s)))
      (computeBlockers s)).link with statusAge := some 0 } }
  exact congrArg (·.link.statusAge) h

theorem keeps_queueConfigStatus (s : State) : KeepsShut s (queueConfigStatus s) :=
  (keeps_enqueue _ _ _ s).trans (keeps_periodBegins _)

/-- The fold that finds the highest of some levels is at least its start and each of them. -/
theorem le_foldl_max {l : List Nat} {m : Option Nat} {v : Nat}
    (h : l.foldl (fun m n => some (match m with | none => n | some k => max k n)) m = some v) :
    (∀ k, m = some k → k ≤ v) ∧ ∀ n ∈ l, n ≤ v := by
  induction l generalizing m with
  | nil => exact ⟨fun k hk => by simp_all, by simp⟩
  | cons x xs ih =>
    obtain ⟨start, rest⟩ := ih h
    have first := start _ rfl
    constructor
    · rintro k rfl; simp only [] at first; omega
    · rintro n (_ | ⟨_, hn⟩)
      · cases m <;> simp only [] at first <;> omega
      · exact rest n hn

theorem foldl_max_eq_none {l : List Nat} {m : Option Nat}
    (h : l.foldl (fun m n => some (match m with | none => n | some k => max k n)) m = none) : m = none ∧ l = [] := by
  induction l generalizing m with
  | nil => exact ⟨h, rfl⟩
  | cons x xs ih => exact nomatch (ih h).1

theorem AlarmUnit.mem_pendingCodes {a : AlarmUnit} {c : Nat} :
    c ∈ a.pendingCodes ↔ c < 64 ∧ ∃ g, a.at c = .pending g := by
  unfold pendingCodes
  simp only [List.mem_filter, List.mem_range]
  refine and_congr_right fun _ => ?_
  cases a.at c <;> simp

/-- Every pending code's level is at most the highest, and without a highest none is pending. -/
theorem AlarmUnit.levelOf_le_highestPending {a : AlarmUnit} {c : Nat} (hc : c < 64) (hp : ∃ g, a.at c = .pending g) :
    ∃ l, a.highestPending = some l ∧ levelOf c ≤ l := by
  have mem : levelOf c ∈ a.pendingCodes.map levelOf := List.mem_map_of_mem (mem_pendingCodes.mpr ⟨hc, hp⟩)
  cases h : a.highestPending with
  | none => rw [(foldl_max_eq_none h).2] at mem; exact nomatch mem
  | some l => exact ⟨l, rfl, (le_foldl_max h).2 _ mem⟩

theorem levelOf_of_pickAt {a : AlarmUnit} {cs : List Nat} {l c : Nat} (h : pickAt a cs l = some c) :
    c ∈ cs ∧ levelOf c = l := by
  have := List.find?_some h
  simpa using this

/-- A picked code is a candidate whose level is above every pending one. -/
theorem pickRequest_spec {img : Image} {a : AlarmUnit} {c : Nat} (h : pickRequest img a = some c) :
    c ∈ candidates img a ∧ highestLevel (candidates img a) = some (levelOf c) ∧
      ∀ d, d < 64 → (∃ g, a.at d = .pending g) → levelOf d < levelOf c := by
  unfold pickRequest at h
  split at h
  · cases h
  · rename_i l hl
    split at h
    · rename_i p hp
      split at h
      · obtain ⟨mem, rfl⟩ := levelOf_of_pickAt h
        refine ⟨mem, hl, fun d hd pd => ?_⟩
        obtain ⟨q, hq, le⟩ := a.levelOf_le_highestPending hd pd
        rw [hp] at hq; cases hq; omega
      · cases h
    · rename_i hn
      obtain ⟨mem, rfl⟩ := levelOf_of_pickAt h
      refine ⟨mem, hl, fun d hd pd => ?_⟩
      obtain ⟨q, hq, _⟩ := a.levelOf_le_highestPending hd pd
      rw [hn] at hq; cases hq

/-- A code whose level is above every pending one joins the pending set. -/
theorem AlarmKept.pend {a : AlarmUnit} {c : Nat} {g : Bool}
    (h : ∀ d, d < 64 → (∃ g, a.at d = .pending g) → levelOf d < levelOf c) : AlarmKept a (a.move c (.pending g)) := by
  refine ⟨id, fun ha d e hd he pd pe lv => ?_⟩
  rcases a.at_move_cases c d (.pending g) with xd | ⟨dc, _⟩ <;>
    rcases a.at_move_cases c e (.pending g) with xe | ⟨ec, _⟩
  · rw [xd] at pd; rw [xe] at pe; exact ha d e hd he pd pe lv
  · rw [xd] at pd; have := h d hd pd; subst ec; omega
  · rw [xe] at pe; have := h e he pe; subst dc; omega
  · rw [dc, ec]

theorem keeps_rot (r : List Nat) (s : State) : KeepsShut s { s with alarm := { s.alarm with rot := r } } :=
  .of_alarm (.of_place rfl id)

theorem keeps_announcePick {c : Nat} {s : State}
    (h : ∀ d, d < 64 → (∃ g, s.alarm.at d = .pending g) → levelOf d < levelOf c) :
    KeepsShut s (announcePick c s) := by
  unfold announcePick
  refine .trans (keeps_rot (s.alarm.rot.set (levelOf c) ((c + 1) % 64)) s) (.ite (fun _ => ?_) fun _ => ?_)
  · exact ((keeps_joinInService c _).trans (keeps_announce _ _ _ _)).trans (keeps_settleInService _ _)
  · exact (keeps_queueStatus _ _).after ((keeps_announce _ _ _ _).after (.of_alarm (.pend h)))

theorem keeps_announceAll (n : Nat) (s : State) : KeepsShut s (announceAll n s) := by
  induction n generalizing s with
  | zero => exact .refl s
  | succ n ih =>
    unfold announceAll
    split
    · exact .refl s
    · exact (keeps_announcePick (pickRequest_spec ‹_›).2.2).trans (ih _)

theorem keeps_reportCode (c : Nat) (s : State) : KeepsShut s (reportCode c s) :=
  .ite (fun _ => keeps_reportLive _ _ s) fun _ => .ite (fun _ => keeps_reportRecovery _ _ s) fun _ => .refl s

theorem keeps_reportCodes (l : List Nat) (s : State) : KeepsShut s (reportCodes l s) := by
  induction l generalizing s with
  | nil => exact .refl s
  | cons c cs ih => exact (keeps_reportCode c s).trans (ih _)

theorem keeps_syncAlarms (s : State) : KeepsShut s (syncAlarms s) := keeps_reportCodes _ s

theorem keeps_deliverDropped (s : State) : KeepsShut s (deliverDropped s) :=
  (keeps_foldl (fun s t => keeps_answerOffer t .none s) _ _).after (keepsShut_of_same rfl rfl rfl rfl rfl rfl rfl rfl)

theorem keeps_settleOnce (s : State) : KeepsShut s (settleOnce s) :=
  ((keeps_deliverDropped s).trans (keeps_syncAlarms _)).trans (keeps_announceAll _ _)

theorem keeps_finish (s : State) : KeepsShut s (finish s) :=
  .ite (fun _ => ((keeps_settleOnce s).trans (keeps_settleOnce _)).trans (keeps_settleOnce _)) fun _ => .refl s

end Sys2Proof.Machine
end

section
/-! `KeepsShut` of events, admission, samples, restarts and frames, and what every command keeps. -/
namespace Sys2Proof.Machine

/-! ### Position events -/

theorem keeps_flux (s : State) (f : Flux) : KeepsShut s { s with flux := f } :=
  keepsShut_of_same rfl rfl rfl rfl rfl rfl rfl rfl

theorem keeps_heat (s : State) (h : Heat) : KeepsShut s { s with heat := h } :=
  keepsShut_of_same rfl rfl rfl rfl rfl rfl rfl rfl

theorem keeps_pot (s : State) (p : Pot) : KeepsShut s { s with pot := p } :=
  keepsShut_of_same rfl rfl rfl rfl rfl rfl rfl rfl

theorem keeps_expiries (s : State) (e : Expiries) : KeepsShut s { s with expiries := e } :=
  keepsShut_of_same rfl rfl rfl rfl rfl rfl rfl rfl

theorem keeps_skipFlux (t : Tag) (s : State) : KeepsShut s (skipFlux t s) :=
  (keeps_addException _ _ _ s).trans (keeps_markHandled _ _)

theorem keeps_openSeries (t : Tag) (p : FluxPage) (s : State) : KeepsShut s (openSeries t p s) := by
  have preempted := (keeps_closeSeries s).trans (keeps_meterSeries _)
  have opened (f : Flux) (due : Pos) : KeepsShut s
      (insertEvent t .fluxStroke 0 due (markHandled t { preemptSeries s with flux := f })).2 :=
    (keeps_insertEvent t .fluxStroke 0 _ _).after ((keeps_markHandled t _).after (preempted.trans (keeps_flux _ _)))
  exact .ite (fun _ => opened _ _) fun _ => (keeps_closeSeries _).after ((keeps_addException _ _ _ _).after (opened _ _))

theorem keeps_fluxStart (t : Tag) (s : State) : KeepsShut s (fluxStart t s) := by
  unfold fluxStart
  simp only []
  refine .ite (fun _ => .refl s) fun _ => ?_
  split
  · exact (keeps_firstUse t s).trans (keeps_skipFlux _ _)
  · exact .ite (fun _ => (keeps_firstUse t s).trans (keeps_skipFlux _ _))
      fun _ => (keeps_firstUse t s).trans (keeps_openSeries _ _ _)

theorem keeps_judgeStroke (r : Series) (s : State) : KeepsShut s (judgeStroke r s) :=
  .ite (fun _ => (keeps_addException _ _ _ s).trans (keeps_appearance _ _)) fun _ =>
    .ite (fun _ => keeps_addException _ _ _ s) fun _ => keeps_flux s _

theorem keeps_fluxStroke (t : Tag) (due : Pos) (s : State) : KeepsShut s (fluxStroke t due s) := by
  unfold fluxStroke
  split
  · exact .refl s
  · refine .ite (fun _ => ?_) fun _ => .refl s
    rename_i r _ _
    have inserted (due : Pos) : KeepsShut s (insertEvent t .fluxStroke 0 due (judgeStroke r s)).2 :=
      (keeps_insertEvent t .fluxStroke 0 _ _).after (keeps_judgeStroke _ s)
    exact .ite (fun _ => inserted _) fun _ => (keeps_closeSeries _).after ((keeps_addException _ _ _ _).after (inserted _))

theorem keeps_withoutEntry (t : Tag) (k : EventKind) (q : Nat) (s : State) :
    KeepsShut s { s with pos := { s.pos with schedule := withoutEntry t k q s.pos.schedule } } :=
  keeps_fewerEvents (.refl _) (List.length_filter_le _ _)

theorem keeps_fluxEnd (t : Tag) (s : State) : KeepsShut s (fluxEnd t s) :=
  .ite (fun _ => keeps_closeSeries s) fun _ => .ite (fun _ => .refl s) fun _ =>
    (keeps_withoutEntry _ _ _ s).trans (keeps_skipFlux _ _)

theorem keeps_waveRaise (t : Tag) (s : State) : KeepsShut s (waveRaise t s) := by
  unfold waveRaise
  simp only []
  refine .ite (fun _ => .refl s) fun _ => ?_
  split
  · exact keeps_firstUse t s
  · refine (keeps_touchPumps _).after ?_
    exact .ite (fun _ => (keeps_addException _ _ _ _).after ((keeps_firstUse t s).trans (keeps_pot _ _)))
      fun _ => (keeps_firstUse t s).trans (keeps_pot _ _)

theorem keeps_profileEvent (t : Tag) (e : Bool) (z : Nat) (s : State) : KeepsShut s (profileEvent t e z s) :=
  .ite (fun _ => keeps_enqueue _ _ _ s) fun _ => .refl s

theorem keeps_zoneEnter (t : Tag) (z : Nat) (s : State) : KeepsShut s (zoneEnter t z s) :=
  .ite (fun _ => .refl s) fun _ =>
    (keeps_profileEvent _ _ _ _).after ((keeps_firstUse t s).trans (keeps_heat _ _))

theorem keeps_judgeNote (t : Tag) (z : Nat) (n : ZoneNote) (s : State) : KeepsShut s (judgeNote t z n s) := by
  unfold judgeNote
  simp only []
  refine .after (keeps_heat _ _) (.trans (t := if n.channels.any (disturbed s) then
    addException t xZoneDisturbed (s.cfg.zone z).machine s else s) ?_ ?_)
  · exact .ite (fun _ => keeps_addException _ _ _ _) fun _ => .refl _
  · exact .ite (fun _ => keeps_addException _ _ _ _) fun _ => .refl _

theorem keeps_zoneLeave (t : Tag) (z : Nat) (s : State) : KeepsShut s (zoneLeave t z s) := by
  refine (keeps_profileEvent _ _ _ _).after ?_
  split
  · exact .refl s
  · exact keeps_judgeNote _ _ _ s

theorem keeps_fireEvent (e : Event) (s : State) : KeepsShut s (fireEvent e s) := by
  unfold fireEvent
  split
  · exact keeps_arrivalDeadline _ s
  · exact keeps_exitDeadline _ s
  · exact keeps_zoneEnter _ _ s
  · exact keeps_zoneLeave _ _ s
  · exact keeps_fluxStart _ s
  · exact keeps_fluxStroke _ _ s
  · exact keeps_fluxEnd _ s
  · exact keeps_waveRaise _ s
  · exact keeps_potRemoval _ s

theorem keeps_fireHead (s : State) : KeepsShut s (fireHead s) := by
  unfold fireHead
  split
  · exact .refl s
  · rename_i e es h
    refine (keeps_fireEvent e _).after (keeps_fewerEvents (.refl _) ?_)
    simp [h]

theorem keeps_deliverEdge (e : Edge) (s : State) : KeepsShut s (deliverEdge e s) := by
  unfold deliverEdge
  split
  · exact keeps_entryLeading _ s
  · exact keeps_entryTrailing _ s
  · exact keeps_exitLeading s
  · exact keeps_exitTrailing s

theorem keeps_freeIndex (n : Nat) (s : State) : KeepsShut s (freeIndex n s).2 := by
  unfold freeIndex
  split
  · exact .refl s
  · exact keepsShut_of_same rfl rfl rfl rfl rfl rfl rfl rfl

theorem keeps_handOver (es : List Edge) (s : State) : KeepsShut s (handOver es s).2 := by
  unfold handOver
  simp only []
  split
  · exact (keeps_freeIndex _ s).trans (keeps_deliverEdge _ _)
  · exact (keeps_freeIndex _ s).trans (keeps_fireHead _)

theorem keeps_runSchedule (n : Nat) (es : List Edge) (s : State) : KeepsShut s (runSchedule n es s) := by
  induction n generalizing es s with
  | zero => exact .refl s
  | succ n ih =>
    exact .ite (fun _ => .refl s) fun _ => .ite (fun _ => keeps_finish s) fun _ =>
      (ih _ _).after ((keeps_finish s).trans (keeps_handOver es _))

theorem keeps_runEvents (es : List Edge) (s : State) : KeepsShut s (runEvents es s) :=
  .ite (fun _ => keeps_runSchedule _ es s) fun _ => .refl s

/-- Opening the gate keeps all but the gate (R58). -/
theorem keeps_openGate (h : Expected) (s : State) : Keeps s (openGate h s) :=
  .trans (t := { s with board := { s.board with
    queue := placeRecord (recordOf h) s.board.queue
    expected := s.board.expected.filter fun e => e.tag != h.tag
    gate := some h.tag } }) { Keeps.refl s with }
    ((keeps_enqueue _ _ _ _).after (keeps_insertEvent _ _ _ _ _)).toKeeps

theorem keeps_judgeAdmission (s : State) : Keeps s (judgeAdmission s) := by
  unfold judgeAdmission
  split
  · exact .refl s
  · exact .ite (fun _ => (keeps_openGate _ s).trans (keeps_runEvents _ _).toKeeps) fun _ => .refl s

/-! ### Heat samples -/

theorem keeps_sampleStep (tc : List Reading) (k : Nat) (c : Channel) (s : State) :
    KeepsShut s (sampleStep tc k c s) :=
  .ite (fun _ => (keeps_modChannel _ _ s).trans (keeps_appearance _ _)) fun _ => keeps_modChannel _ _ s

theorem keeps_tripStep (k : Nat) (s : State) : KeepsShut s (tripStep k s) := by
  unfold tripStep
  split
  · exact .refl s
  · exact .ite (fun _ => (keeps_modChannel _ _ s).trans (keeps_appearance _ _)) fun _ => .refl s

theorem keeps_coolStep (k : Nat) (s : State) : KeepsShut s (coolStep k s) := by
  unfold coolStep
  split
  · exact .refl s
  · exact .ite (fun _ => (keeps_modChannel _ _ s).trans (keeps_reportRecovery _ _ _)) fun _ => .refl s

theorem keeps_settleStep (k : Nat) (s : State) : KeepsShut s (settleStep k s) := by
  unfold settleStep
  split
  · exact .refl s
  · exact .ite (fun _ => (keeps_modChannel _ _ s).trans (keeps_settleLost _ _)) fun _ => keeps_modChannel _ _ s

theorem keeps_channelSample (tc : List Reading) (k : Nat) (s : State) : KeepsShut s (channelSample tc k s) := by
  unfold channelSample
  split
  · exact .refl s
  · rename_i c _
    have moded := (keeps_rederive k _).after ((keeps_coolStep k _).after
      ((keeps_tripStep k _).after (keeps_sampleStep tc k c s)))
    exact (keeps_modChannel _ _ _).after ((keeps_settleStep k _).after (moded.trans (keeps_modChannel _ _ _)))

theorem keeps_samplesOf (tc : List Reading) (ks : List Nat) (s : State) : KeepsShut s (samplesOf tc ks s) := by
  induction ks generalizing s with
  | nil => exact .refl s
  | cons k ks ih => exact (keeps_channelSample tc k s).trans (ih _)

theorem keeps_heatSampleAll (tc : List Reading) (s : State) : KeepsShut s (heatSampleAll tc s) :=
  (keeps_heat s _).trans (keeps_samplesOf tc _ _)

theorem keeps_blindExpired (k : Nat) (s : State) : KeepsShut s (blindExpired k s) := by
  unfold blindExpired
  split
  · exact .refl s
  · exact .ite (fun _ => ((keeps_modChannel _ _ s).trans (keeps_appearance _ _)).trans (keeps_rederive _ _))
      fun _ => .refl s

/-! ### Power rounds, levels and flows -/

theorem keeps_ownRound (s : State) : KeepsShut s (ownRound s) :=
  (keeps_enqueue _ _ _ s).trans (keepsShut_of_same rfl rfl rfl rfl rfl rfl rfl rfl)

theorem keeps_enterRunning {s : State} (h : s.loader.station ≠ .inReset) : KeepsShut s (enterRunning s) := by
  have entered : KeepsShut s { s with loader := { s.loader with station := .running } } :=
    ⟨{ Keeps.refl s with inReset := fun e => absurd e h }, id⟩
  exact (keeps_queueStatus _ _).after ((keeps_touchPumps _).after (entered.trans (keeps_rederiveAll _)))

theorem keeps_countRound (s : State) : KeepsShut s (countRound s) := by
  refine .ite (fun h => ?_) fun _ => .refl s
  have counted : KeepsShut s { s with loader := { s.loader with roundCount := s.loader.roundCount + 1 } } :=
    keepsShut_of_same rfl rfl rfl rfl rfl rfl rfl rfl
  exact .ite (fun _ => counted.trans (keeps_enterRunning (by simp [h]))) fun _ => counted

theorem keeps_levelChanged (was : Option LevelState) (s : State) : KeepsShut s (levelChanged was s) := by
  unfold levelChanged
  simp only []
  refine .ite (fun _ => .refl s) fun _ => (keeps_touchPumps _).after ?_
  refine .trans (t := if s.pot.level = some .high ∨ s.pot.level = some .lowLow then
    { s with pot := { s.pot with feed := s.pot.feed.cut } } else s) ?_ ?_
  · exact .ite (fun _ => keeps_pot s _) fun _ => .refl s
  · exact .ite (fun _ => keeps_foldl (fun s r => keeps_addException _ _ _ s) _ _) fun _ => .refl _

theorem keeps_takeLevel (r : Reading) (s : State) : KeepsShut s (takeLevel r s) := by
  unfold takeLevel
  split
  · exact .refl s
  · exact .ite (fun _ => (keeps_levelChanged _ _).after ((keeps_overtake _ _).after
      ((keeps_overtake _ _).after (keeps_pot s _)))) fun _ => .refl s

theorem keeps_judgeFeed (s : State) : KeepsShut s (judgeFeed s) := by
  refine .ite (fun _ => .ite (fun _ => ?_) fun _ => ?_) fun _ => .refl s
  · exact .ite (fun _ => keeps_pot s _) fun _ => .ite (fun _ => (keeps_pot s _).trans (keeps_appearance _ _))
      fun _ => .refl s
  · split
    · exact .ite (fun _ => keeps_pot s _) fun _ => .refl s
    · exact .refl s

theorem keeps_takeFlow (f p : Reading) (s : State) : KeepsShut s (takeFlow f p s) := by
  refine .trans (t := provenChanged (proven s) { s with fume := s.fume.take s.cfg f p }) ?_ ?_
  · exact (keeps_fume s _).trans (keeps_provenChanged _ _)
  · exact .ite (fun _ => .refl _) fun _ => keeps_fume _ _

/-! ### Restarts -/

theorem keeps_startGrace (s : State) : KeepsShut s (startGrace s) := .ite (fun _ => keeps_fume s _) fun _ => .refl s

theorem keeps_takeTanks (s : State) : KeepsShut s (takeTanks s) := .ite (fun _ => keeps_flux s _) fun _ => .refl s

theorem keeps_startPeriods (s : State) : KeepsShut s (startPeriods s) := keepsShut_of_same rfl rfl rfl rfl rfl rfl rfl rfl

/-- The last steps of an entry to JOINING. -/
theorem keeps_joiningStatus (s : State) :
    KeepsShut s (queueStatus true (startGrace (takeTanks (startPeriods s)))) :=
  (keeps_queueStatus _ _).after ((keeps_startGrace _).after ((keeps_startPeriods s).trans (keeps_takeTanks _)))

theorem keeps_enterJoining {s : State} (img : Image) (h : s.loader.station ≠ .inReset) :
    KeepsShut s (enterJoining img s) := by
  have blocks : KeepsShut s (joiningBlocks img s) :=
    ⟨{ Keeps.refl s with
        inReset := fun e => absurd e h
        alarms := AlarmKept.of_place rfl id }, id⟩
  exact blocks.trans (keeps_joiningStatus _)

/-- A warm restart leaves no code pending and lists nothing new (R204). -/
theorem AlarmKept.warm (me : Nat) (a : AlarmUnit) : AlarmKept a (a.warm me) := by
  refine ⟨fun h => Nat.le_trans (List.length_filter_le _ _) h, AlarmUnit.PendingIn.distinct fun c h => ?_⟩
  have idle : (a.warm me).at c = .idle := by
    rw [AlarmUnit.at, AlarmUnit.warm, getD_replicate_same]
  obtain ⟨g, hg⟩ := h
  rw [idle] at hg; cases hg

/-- The state with no status period running. -/
def withoutPeriod (s : State) : State := { s with link := { s.link with statusAge := none } }

theorem KeepsShut.of_withoutPeriod {s t : State} (k : KeepsShut (withoutPeriod s) t) (ht : t.link.statusAge = some 0) :
    KeepsShut s t :=
  ⟨⟨k.pending, k.counter, k.tally, k.supply, k.inReset, k.frames, k.events, k.alarms, fun _ => ht⟩, k.gate⟩

theorem keeps_warmBlocks {s : State} (h : s.loader.station ≠ .inReset) :
    KeepsShut (withoutPeriod s) (warmBlocks s) where
  pending := rfl
  counter := rfl
  tally := rfl
  supply := rfl
  inReset e := absurd e h
  frames hq := by
    simp only [warmBlocks, Link.warm, List.length_map]
    exact Nat.le_trans (List.length_filter_le _ _) hq
  events _ := Nat.zero_le _
  alarms := .warm _ _
  period e := nomatch e
  gate _ := rfl

theorem AlarmKept.raiseStanding (l : List Nat) (a : AlarmUnit) : AlarmKept a (a.raiseStanding l) := by
  induction l generalizing a with
  | nil => exact .refl a
  | cons c cs ih =>
    unfold AlarmUnit.raiseStanding
    refine AlarmKept.trans ?_ (ih _)
    split
    · exact .move fun ⟨_, h⟩ => nomatch h
    · exact .refl a

theorem keeps_warmRestart {s : State} (h : s.loader.station ≠ .inReset) : KeepsShut s (warmRestart s) := by
  refine .trans (t := joinStanding (syncAlarms
    (queueStatus true (startGrace (takeTanks (startPeriods (warmBlocks s))))))) ?_ ?_
  · exact .after (.of_alarm (.raiseStanding _ _))
      ((keeps_syncAlarms _).after (.of_withoutPeriod ((keeps_warmBlocks h).trans (keeps_joiningStatus _))
        (queueStatus_statusAge _ _)))
  · exact .ite (fun _ => keeps_appearance _ _) fun _ => .refl _

/-! ### Frames -/

theorem keeps_dropExpected (t : Tag) (s : State) : KeepsShut s (dropExpected t s) := by
  unfold dropExpected
  split
  · exact .refl s
  · exact (keeps_releaseRef _ _).after (keeps_board rfl)

theorem keeps_acceptOffer (b : List Byte) (s : State) : KeepsShut s (acceptOffer b s) := by
  have resolved := (keeps_resolve (offerRecord b).product _).after (keeps_dropExpected (offerRecord b).tag s)
  refine (keeps_runEvents _ _).after (.ite (fun _ => (keeps_formRequired _).after ?_) fun _ => ?_)
  all_goals exact (keeps_insertEvent _ _ _ _ _).after (resolved.trans (keeps_board rfl))

theorem keeps_appendNotice (t : Tag) (p : Product) (n : Nat) (s : State) : KeepsShut s (appendNotice t p n s) :=
  (keeps_resolve p s).trans (keeps_board rfl)

theorem keeps_takeAlarmRaise (f : Rx) (s : State) : KeepsShut s (takeAlarmRaise f s).2 := by
  unfold takeAlarmRaise
  simp only []
  split
  · exact .refl s
  · exact .of_alarm (.enter _ _)

theorem keeps_takeAlarmAck (f : Rx) (s : State) : KeepsShut s (takeAlarmAck f s).2 := by
  unfold takeAlarmAck
  split
  · exact .refl s
  · exact keeps_applyAck _ _ s

theorem keeps_takeAlarmClear (f : Rx) (s : State) : KeepsShut s (takeAlarmClear f s).2 := by
  unfold takeAlarmClear
  split
  · exact .refl s
  · exact .of_alarm (.strike _ _)

theorem keeps_takeBoardOffer (f : Rx) (s : State) : KeepsShut s (takeBoardOffer f s).2 :=
  .ite (fun _ => keeps_acceptOffer _ s) fun _ => .refl s

theorem keeps_takeAdmitted (f : Rx) (s : State) : KeepsShut s (takeAdmitted f s).2 := by
  unfold takeAdmitted
  simp only [apply_ite Prod.snd]
  exact .ite (fun _ => keeps_board rfl) fun _ => .refl s

theorem keeps_takeBoardNotice (f : Rx) (s : State) : KeepsShut s (takeBoardNotice f s).2 :=
  .ite (fun _ => keeps_appendNotice _ _ _ s) fun _ => .refl s

theorem keeps_takeBoardWithdraw (f : Rx) (s : State) : KeepsShut s (takeBoardWithdraw f s).2 := by
  unfold takeBoardWithdraw
  simp only []
  split
  · exact keeps_dropExpected _ s
  · split <;> exact .refl s

theorem keeps_takeRecipePage (f : Rx) (s : State) : KeepsShut s (takeRecipePage f s).2 := by
  unfold takeRecipePage
  split
  · exact .refl s
  · exact .refl s
  · split
    · exact .refl s
    · split
      · exact .refl s
      · exact keeps_storeAll _ _ _ (false, s)

theorem keeps_takeRecipeWithdraw (f : Rx) (s : State) : KeepsShut s (takeRecipeWithdraw f s).2 := by
  unfold takeRecipeWithdraw
  split
  · exact .refl s
  · split
    · exact .refl s
    · exact keeps_recipe s _

theorem keeps_takeHeatDemand (f : Rx) (s : State) : KeepsShut s (takeHeatDemand f s).2 := by
  unfold takeHeatDemand
  split
  · exact keepsShut_of_same rfl rfl rfl rfl rfl rfl rfl rfl
  · exact .refl s

theorem keeps_takeSnapshot (f : Rx) (s : State) : KeepsShut s (takeSnapshot f s).2 := by
  unfold takeSnapshot
  split
  · exact .refl s
  · refine (keeps_enqueue _ _ _ _).after ⟨{ Keeps.refl s with }, id⟩

theorem keeps_takeRestart {s : State} (h : s.loader.station ≠ .inReset) : KeepsShut s (takeRestart s).2 := by
  unfold takeRestart
  split
  · exact keeps_warmRestart h
  · exact .refl s

theorem AlarmKept.alignList (n : Nat) (f : StatusFields) (a : AlarmUnit) : AlarmKept a (alignList n f a) := by
  have first : AlarmKept a (if f.pendingCount = 0 then a.strike fun e => e.origin == n && !e.inService else a) := by
    split
    · exact .strike _ _
    · exact .refl a
  unfold Machine.alignList
  simp only []
  split
  · exact first.trans (.strike _ _)
  · exact first

theorem keeps_takeStatus (f : Rx) (s : State) : Keeps s (takeStatus f s).2 := by
  have heard : KeepsShut s { s with
      alarm := alignList f.src.toNat (statusBody f.body) s.alarm
      link := { s.link with peers := s.link.peers.set f.src.toNat (some ⟨statusBody f.body, 0⟩) } } :=
    ⟨{ Keeps.refl s with alarms := .alignList _ _ _ }, id⟩
  have fanned := (keeps_formFan _).after (.ite (c := f.src.toNat = s.cfg.cover)
    (fun _ => heard.trans (keeps_formAdopted _)) fun _ => heard)
  exact .ite (fun _ => fanned.toKeeps.trans (keeps_judgeAdmission _)) fun _ => fanned.toKeeps

theorem keepsShut_handleFrame {k : Kind} {s : State} (f : Rx) (hs : s.loader.station ≠ .inReset) (hk : k ≠ .status) :
    KeepsShut s (handleFrame k f s).2 := by
  unfold handleFrame
  split
  · exact keeps_takeAlarmRaise f s
  · exact keeps_takeAlarmAck f s
  · exact keeps_takeBoardOffer f s
  · exact keeps_takeAlarmClear f s
  · exact keeps_takeAdmitted f s
  · exact keeps_dropExpected _ s
  · exact keeps_takeBoardNotice f s
  · exact keeps_takeBoardWithdraw f s
  · exact keeps_takeRecipePage f s
  · exact keeps_takeRecipeWithdraw f s
  · exact keeps_takeHeatDemand f s
  · exact absurd rfl hk
  · exact keeps_takeSnapshot f s
  · exact keeps_takeRestart hs
  all_goals exact .refl s

theorem keeps_handleFrame {s : State} (k : Kind) (f : Rx) (hs : s.loader.station ≠ .inReset) :
    Keeps s (handleFrame k f s).2 := by
  by_cases hk : k = .status
  · subst hk; exact keeps_takeStatus f s
  · exact (keepsShut_handleFrame f hs hk).toKeeps

theorem keeps_driveAnswer (a : Answer) (s : State) : KeepsShut s (driveAnswer a s) :=
  keepsShut_of_same rfl rfl rfl rfl rfl rfl rfl rfl

theorem keeps_countBad (s : State) : KeepsShut s (countBad s) := keepsShut_of_same rfl rfl rfl rfl rfl rfl rfl rfl

theorem not_inReset_of_active {s : State} (h : s.active = true) : s.loader.station ≠ .inReset := by
  intro e; simp [State.active, e] at h

@[simp] theorem setIsolation_loader (n : Nat) (s : State) : (setIsolation n s).loader = s.loader := by
  obtain ⟨_, _, _, _, h⟩ := setIsolation_eq n s
  rw [h]

/-- Receiving a frame keeps what its kind's owner keeps (R4 to R6, R13, R14). -/
theorem receive_cases (k : Kind) (f : Rx) (s : State) :
    KeepsShut s (receive k f s) ∨
      (s.active = true ∧ k.lengthOk f.body.length = true ∧ f.src.toNat ≠ s.me ∧ ∃ a, receive k f s =
        driveAnswer a (handleFrame k f (setIsolation 0 s)).2) := by
  unfold receive
  split
  · rename_i ha
    split
    · rename_i hl
      unfold receiveValid
      split
      · exact .inl (((keeps_setIsolation 0 s).trans (keeps_appearance _ _)).trans (keeps_driveAnswer _ _))
      · rename_i hm
        unfold receiveOther
        simp only []
        split
        · exact .inr ⟨ha, hl, by simpa [State.me] using hm, _, rfl⟩
        · exact .inl ((keeps_setIsolation 0 s).trans (keeps_driveAnswer _ _))
    · exact .inl (keeps_countBad s)
  · exact .inl (.refl s)

theorem keeps_receive (k : Kind) (f : Rx) (s : State) : Keeps s (receive k f s) := by
  rcases receive_cases k f s with h | ⟨ha, _, _, a, e⟩
  · exact h.toKeeps
  · rw [e]
    have hs : (setIsolation 0 s).loader.station ≠ .inReset := by
      rw [setIsolation_loader]; exact not_inReset_of_active ha
    exact ((keeps_setIsolation 0 s).toKeeps.trans (keeps_handleFrame k f hs)).trans (keeps_driveAnswer _ _).toKeeps

theorem keepsShut_receive {k : Kind} (f : Rx) (s : State) (hk : k ≠ .status) : KeepsShut s (receive k f s) := by
  rcases receive_cases k f s with h | ⟨ha, _, _, a, e⟩
  · exact h
  · rw [e]
    have hs : (setIsolation 0 s).loader.station ≠ .inReset := by
      rw [setIsolation_loader]; exact not_inReset_of_active ha
    exact ((keeps_setIsolation 0 s).trans (keepsShut_handleFrame f hs hk)).trans (keeps_driveAnswer _ _)

end Sys2Proof.Machine
end

section
/-! What every command and every step keeps: the statements on the waiting commands (O2) and on the invariants
(O56, O57). -/
namespace Sys2Proof.Machine

/-! ### The commands -/

/-- The commands at which admission may be judged: a frame that may be a STATUS, and the status period (R57). -/
def judges : Instr → Bool
  | .status _ | .statusPeriod | .badFrame _ | .numberConflict .. | .frameNotTaken ..
  | .frameAimedAtOtherStation .. => true
  | _ => false

/-- A reset, or a pulse of the encoder. -/
def movesCounter : Instr → Bool
  | .coldReset _ | .resetRelease | .encoderPulse _ => true
  | _ => false

/-- What a command keeps: the gate shut as well, where it does not judge admission. -/
def KeepsBy (c : Instr) (s t : State) : Prop := Keeps s t ∧ (judges c = false → s.board.gate = none → t.board.gate = none)

theorem KeepsShut.by {s t : State} (h : KeepsShut s t) (c : Instr) : KeepsBy c s t := ⟨h.toKeeps, fun _ => h.gate⟩

/-- A command answers one next state that keeps what `KeepsBy` says. -/
abbrev AnswersKept (c : Instr) (s : State) : Prop := NextWith (exec c s) (KeepsBy c s)

theorem nextWith_ite {p : Prop} [Decidable p] {x y : Result} {P : State → Prop} (hx : p → NextWith x P)
    (hy : ¬p → NextWith y P) : NextWith (if p then x else y) P := by
  split
  · exact hx ‹_›
  · exact hy ‹_›

theorem nextWith_next {t : State} {P : State → Prop} (h : P t) : NextWith (.next t) P := ⟨t, rfl, h⟩

/-- A command that acts, and what ends it, in some states, and changes nothing in the others. -/
theorem kept_finish_or_same {c : Instr} {s t : State} {p : Prop} [Decidable p] (h : KeepsShut s t) :
    NextWith (if p then .next (finish t) else .next s : Result) (KeepsBy c s) :=
  nextWith_ite (fun _ => nextWith_next ((h.trans (keeps_finish t)).by c)) fun _ => nextWith_next ((KeepsShut.refl s).by c)

theorem kept_or_same {c : Instr} {s t : State} {p : Prop} [Decidable p] (h : KeepsShut s t) :
    NextWith (if p then .next t else .next s : Result) (KeepsBy c s) :=
  nextWith_ite (fun _ => nextWith_next (h.by c)) fun _ => nextWith_next ((KeepsShut.refl s).by c)

theorem kept_or_kept {c : Instr} {s t u : State} {p : Prop} [Decidable p] (h : KeepsShut s t) (k : KeepsShut s u) :
    NextWith (if p then .next t else .next u : Result) (KeepsBy c s) :=
  nextWith_ite (fun _ => nextWith_next (h.by c)) fun _ => nextWith_next (k.by c)

/-- A level seen at a pin other than the supply. -/
theorem keeps_pins {s : State} {p : Pins} (h : p.supply = s.pins.supply) : KeepsShut s { s with pins := p } :=
  keepsShut_of_same rfl rfl h rfl rfl rfl rfl rfl

theorem kept_receive {k : Kind} {c : Instr} (f : Rx) (s : State) (hk : k ≠ .status) :
    NextWith (.next (finish (receive k f s))) (KeepsBy c s) :=
  nextWith_next (((keepsShut_receive f s hk).trans (keeps_finish _)).by c)

/-- A frame that may be a STATUS. -/
theorem kept_receive_any {k : Kind} {c : Instr} (f : Rx) (s : State) (hc : judges c = true) :
    NextWith (.next (finish (receive k f s))) (KeepsBy c s) :=
  nextWith_next ⟨(keeps_receive k f s).trans (keeps_finish _).toKeeps, fun h => absurd (hc.symm.trans h) nofun⟩

theorem keeps_takeExpiry {t : OwnTimer} {act : State → State} {s : State} (h : ∀ u, Keeps u (act u)) :
    Keeps s (takeExpiry t act s) :=
  .ite (fun _ => (keeps_expiries s _).toKeeps) fun _ => (keeps_expiries s _).toKeeps.trans (h _)

theorem keepsShut_takeExpiry {t : OwnTimer} {act : State → State} {s : State} (h : ∀ u, KeepsShut u (act u)) :
    KeepsShut s (takeExpiry t act s) :=
  .ite (fun _ => keeps_expiries s _) fun _ => (keeps_expiries s _).trans (h _)

theorem keeps_reofferBlocked (s : State) : KeepsShut s (reofferBlocked s) := by
  unfold reofferBlocked
  split
  · exact .refl s
  · split
    · exact .refl s
    · exact .ite (fun _ => keeps_offerBoard _ s) fun _ => .refl s

theorem keeps_statusPeriodOver (s : State) : Keeps s (statusPeriodOver s) :=
  (((keeps_queueStatus false s).trans (keeps_reofferBlocked _)).toKeeps.trans (keeps_judgeAdmission _)).trans
    (keeps_formFan _).toKeeps

theorem keeps_loadingEnds {s : State} (j : Option Image × Bool) (me : Nat) (h : s.loader.station ≠ .inReset) :
    KeepsShut s (loadingEnds j me s) := by
  have fault (img : Option Image) (ok : Bool) : KeepsShut s (enterConfigFault img ok s) :=
    (keeps_queueConfigStatus _).after ⟨{ Keeps.refl s with inReset := fun e => absurd e h }, id⟩
  unfold loadingEnds
  split
  · exact fault _ _
  · exact .ite (fun _ => .ite (fun _ => (keeps_enterJoining _ h).trans (keeps_finish _)) fun _ => fault _ _)
      fun _ => fault _ _

theorem length_startFirst (q : List TxEntry) : (startFirst q).length = q.length := by
  unfold startFirst
  split
  · rfl
  · split <;> rfl

theorem length_returnToWaiting (e : TxEntry) (q : List TxEntry) : (returnToWaiting e q).length ≤ q.length := by
  unfold returnToWaiting
  split
  · exact List.length_filter_le _ _
  · rw [List.length_map]; exact List.length_filter_le _ _

/-- A change of the transmit queue that does not make it longer. -/
theorem keeps_queue {s : State} {q : List TxEntry} (h : q.length ≤ s.link.queue.length) :
    KeepsShut s { s with link := { s.link with queue := q } } :=
  ⟨{ Keeps.refl s with frames := Nat.le_trans h }, id⟩

theorem keeps_giveAnswer (e : TxEntry) (a : Answer) (s : State) : KeepsShut s (giveAnswer e a s) := by
  unfold giveAnswer
  split
  · exact .refl s
  · split
    · exact keeps_answerOffer _ a s
    · exact ⟨{ Keeps.refl s with }, id⟩
    all_goals exact .refl s

theorem kept_answerSlotRead (b : SlotBits) (s : State) : AnswersKept (.answerSlotRead b) s := by
  have left := keeps_queue (s := s) (List.length_filter_le (fun x => !x.inTx) s.link.queue)
  show NextWith (execAnswerSlotRead b s) _
  unfold execAnswerSlotRead
  split
  · exact nextWith_next ((KeepsShut.refl s).by _)
  · exact kept_or_kept ((keeps_finish _).after ((keeps_giveAnswer _ _ _).after (left.trans (keeps_setIsolation _ _)))) left

theorem kept_badFrame (f : RawFrame) (s : State) : AnswersKept (.badFrame f) s := by
  show NextWith (execBadFrame f s) _
  unfold execBadFrame
  split
  · split
    · exact nextWith_next ((keeps_countBad s).by _)
    · exact kept_receive_any _ s rfl
  · exact nextWith_next ((KeepsShut.refl s).by _)

theorem kept_contentionLost (s : State) : AnswersKept .contentionLost s := by
  show NextWith (execContentionLost s) _
  unfold execContentionLost
  split
  · exact nextWith_next ((KeepsShut.refl s).by _)
  · exact nextWith_next ((keeps_queue (length_returnToWaiting _ _)).by _)

theorem kept_startImageReadComplete (a b : List Byte) (s : State) : AnswersKept (.startImageReadComplete a b) s := by
  show NextWith (execStartImageReadComplete a b s) _
  unfold execStartImageReadComplete
  split
  · rename_i h
    split
    · exact nextWith_next ((keeps_loadingEnds _ _ (by simp [h])).by _)
    · exact nextWith_next ((KeepsShut.refl s).by _)
  · exact nextWith_next ((KeepsShut.refl s).by _)

theorem kept_statusPeriod (s : State) : AnswersKept .statusPeriod s := by
  refine nextWith_ite (fun _ => nextWith_next ⟨?_, fun h => nomatch h⟩) fun _ => nextWith_next ((KeepsShut.refl s).by _)
  exact (keeps_takeExpiry keeps_statusPeriodOver).trans (keeps_finish _).toKeeps

theorem keeps_sensorChange (w : Sensor) (a : Bool) (s : State) : KeepsShut s (sensorChange w a s) := by
  have set (st : SensorState) : KeepsShut s (setSensor w st s) := by
    cases w <;> exact ⟨{ Keeps.refl s with }, id⟩
  exact .ite (fun _ => (set _).trans (keeps_runEvents _ _)) fun _ => set _

theorem keeps_setTank (w : TankSwitch) (t : Tank) (s : State) : KeepsShut s (setTank w t s) := by
  cases w <;> exact keeps_flux s _

theorem keeps_tankTaken (w : TankSwitch) (s : State) : KeepsShut s (tankTaken w s) :=
  .ite (fun _ => (keeps_setTank w _ s).trans (keeps_cutPulse _)) fun _ => keeps_setTank w _ s

theorem keeps_takePress (s : State) : KeepsShut s (takePress s) := by
  unfold takePress
  split
  · exact .refl s
  · exact (keeps_enqueue _ _ _ s).trans (keeps_applyAck _ _ _)

theorem keeps_ack (s : State) (p : AckPhase) : KeepsShut s { s with alarm := { s.alarm with ack := p } } :=
  .of_alarm (.of_place rfl id)

/-- Every command but a reset and an encoder pulse answers a next state that keeps what `KeepsBy` says. -/
theorem exec_kept (c : Instr) (s : State) (h : movesCounter c = false) : AnswersKept c s := by
  cases c with
  | coldReset _ => cases h
  | resetRelease => cases h
  | encoderPulse _ => cases h
  | strapSample p =>
    refine nextWith_next (KeepsShut.by ?_ _)
    refine keepsShut_of_same rfl rfl rfl ?_ rfl rfl rfl rfl
    unfold Loader.strapSample
    repeat' split
    all_goals rfl
  | startImageReadComplete a b => exact kept_startImageReadComplete a b s
  | configFaultStatusPeriod => exact kept_or_same (keeps_queueConfigStatus s)
  | wireFreeTransmitStart => exact nextWith_next ((keeps_queue (Nat.le_of_eq (length_startFirst _))).by _)
  | contentionLost => exact kept_contentionLost s
  | answerSlotRead b => exact kept_answerSlotRead b s
  | badFrame f => exact kept_badFrame f s
  | numberConflict k f => exact kept_receive_any f s rfl
  | frameNotTaken k f => exact kept_receive_any f s rfl
  | frameAimedAtOtherStation k f => exact kept_receive_any f s rfl
  | status f => exact kept_receive_any f s rfl
  | alarmRaise f => exact kept_receive f s nofun
  | alarmAck f => exact kept_receive f s nofun
  | alarmClear f => exact kept_receive f s nofun
  | boardOffer f => exact kept_receive f s nofun
  | admitted f => exact kept_receive f s nofun
  | boardExit f => exact kept_receive f s nofun
  | boardNotice f => exact kept_receive f s nofun
  | boardWithdraw f => exact kept_receive f s nofun
  | recipePage f => exact kept_receive f s nofun
  | recipeWithdraw f => exact kept_receive f s nofun
  | heatDemand f => exact kept_receive f s nofun
  | snapshot f => exact kept_receive f s nofun
  | restart f => exact kept_receive f s nofun
  | statusPeriod => exact kept_statusPeriod s
  | peerStatusStale n =>
    have stale (p : List (Option Peer)) : KeepsShut s { s with link := { s.link with peers := p } } :=
      keepsShut_of_same rfl rfl rfl rfl rfl rfl rfl rfl
    exact kept_finish_or_same (.ite (fun _ => (stale _).trans (keeps_formAdopted _)) fun _ => stale _)
  | powerRound => exact kept_finish_or_same ((keeps_ownRound s).trans (keeps_countRound _))
  | sensorInputChange w a =>
    have seen : KeepsShut s (setSensorPin w a s) := by cases w <;> exact keeps_pins rfl
    exact kept_or_kept (seen.trans ((keeps_sensorChange w a _).trans (keeps_finish _))) seen
  | fetchTimerExpiry i => exact kept_finish_or_same (keeps_recipe s _)
  | heatSample tc =>
    have seen : KeepsShut s { s with pins := { s.pins with tc := tc } } := keeps_pins rfl
    exact kept_or_kept (seen.trans ((keeps_heatSampleAll tc _).trans (keeps_finish _))) seen
  | idleTimerExpiry k => exact kept_or_same (keeps_modChannel _ _ s)
  | blindTimerExpiry k => exact kept_finish_or_same (keeps_blindExpired k s)
  | zeroCross => exact kept_finish_or_same (keeps_heat s _)
  | mainsMissing => exact kept_finish_or_same (keeps_heat s _)
  | nozzlePulseEnd => exact kept_or_same (keeps_cutPulse s)
  | drainTimerExpiry => exact kept_finish_or_same (keeps_meterSeries s)
  | flowMeterPulse => exact kept_or_same (keeps_flux s _)
  | tankSwitchChange w a =>
    have seen : KeepsShut s (setTankPin w a s) := by cases w <;> exact keeps_pins rfl
    exact kept_or_kept (seen.trans (keeps_setTank w _ _)) seen
  | tankSwitchTaken w => exact kept_finish_or_same (keeps_tankTaken w s)
  | levelSample r =>
    have seen : KeepsShut s { s with pins := { s.pins with level := r } } := keeps_pins rfl
    refine kept_or_kept (.after (keeps_finish _) (.after (keeps_judgeFeed _) (.after (keeps_takeLevel r _) ?_))) seen
    exact seen.trans (keeps_pot _ _)
  | levelCheckDue => exact kept_or_same (keepsShut_takeExpiry fun u => keeps_pot u _)
  | levelUnverified => exact kept_finish_or_same (keepsShut_takeExpiry fun u => keeps_pot u _)
  | feedPulseEnd => exact kept_or_same (keeps_pot s _)
  | meltPauseEnd => exact kept_or_same (keeps_pot s _)
  | feedWindowExpiry => exact kept_or_same (keeps_pot s _)
  | flowSample f p =>
    have seen : KeepsShut s { s with pins := { s.pins with flow := f, pressure := p } } := keeps_pins rfl
    exact kept_or_kept (seen.trans ((keeps_takeFlow f p _).trans (keeps_finish _))) seen
  | riseDelayExpiry => exact kept_or_same (keepsShut_takeExpiry fun u => keeps_fume u _)
  | extractionLost => exact kept_finish_or_same (keeps_fume s _)
  | graceTimerExpiry => exact kept_or_same (keeps_fume s _)
  | fanRunInputChange a =>
    have seen : KeepsShut s { s with pins := { s.pins with fanRun := a } } := keeps_pins rfl
    exact kept_or_kept (.after (keeps_finish _) (.ite (fun _ => seen.trans (keeps_fume _ _)) fun _ => seen)) seen
  | fanNotRunning => exact kept_finish_or_same ((keeps_fume s _).trans (keeps_appearance _ _))
  | ackButtonPress => exact kept_finish_or_same ((keeps_ack s .spent).trans (keeps_takePress _))
  | ackButtonInputChange a =>
    have seen : KeepsShut s { s with pins := { s.pins with ack := a } } := keeps_pins rfl
    exact kept_or_kept (seen.trans (keeps_ack _ _)) seen

/-! ### Encoder pulses and resets -/

theorem keeps_dropSpacing (s : State) : KeepsShut s (dropSpacing s) := by
  unfold dropSpacing
  split
  · exact .ite (fun _ => keeps_board rfl) fun _ => .refl s
  · exact .refl s

theorem keeps_reversePulse (s : State) :
    KeepsShut { s with pos := { s.pos with tally := min 65535 (s.pos.tally + 1) } } (reversePulse s) := by
  unfold reversePulse
  simp only []
  split
  · exact keeps_appearance _ _
  · exact .refl _

/-- An encoder pulse writes the counter, the tally and the sensors, and keeps what follows. -/
theorem exec_encoderPulse_kept (b : Bool) (s : State) :
    ∃ c n e x, NextWith (exec (.encoderPulse b) s) (KeepsShut
      { s with pos := { s.pos with counter := c, tally := n, entryS := e, exitS := x } }) := by
  show ∃ c n e x, NextWith (execEncoderPulse b s) _
  unfold execEncoderPulse
  split
  · cases b
    · exact ⟨s.pos.counter, min 65535 (s.pos.tally + 1), s.pos.entryS, s.pos.exitS, nextWith_next
        ((keeps_reversePulse s).trans (keeps_finish _))⟩
    · by_cases ht : 0 < s.pos.tally
      · exact ⟨s.pos.counter, s.pos.tally - 1, s.pos.entryS, s.pos.exitS, nextWith_next (by
          simp only [forwardPulse, ht, if_true]; exact keeps_finish _)⟩
      · refine ⟨s.pos.counter + 1, s.pos.tally,
          s.pos.entryS.take (s.pos.counter + 1) s.cfg.geometry.debounce,
          s.pos.exitS.take (s.pos.counter + 1) s.cfg.geometry.debounce, nextWith_next ?_⟩
        simp only [forwardPulse, ht, if_false, if_true]
        exact ((keeps_dropSpacing _).trans (keeps_runEvents _ _)).trans (keeps_finish _)
  · exact ⟨s.pos.counter, s.pos.tally, s.pos.entryS, s.pos.exitS, nextWith_next (.refl s)⟩

/-- A cold reset answers the state in reset, or changes at most the supply, which then stands at 2.9 V or above. -/
theorem exec_coldReset_cases (k : ResetCause) (s : State) :
    NextWith (exec (.coldReset k) s) fun t =>
      (∃ u, t = coldState .inReset u ∧ u.pending = s.pending) ∨
      (∃ mv, t = setSupply mv s ∧ 2900 ≤ mv) ∨ ∃ n, t = { s with freeCount := n } := by
  cases k with
  | supplyApplied mv => exact nextWith_next (.inl ⟨setSupply mv s, rfl, rfl⟩)
  | supplyLow mv =>
    refine nextWith_ite (fun _ => nextWith_next (.inl ⟨_, rfl, rfl⟩)) fun h => nextWith_next (.inr (.inl ⟨mv, rfl, ?_⟩))
    exact Nat.le_of_not_lt h
  | resetPin ns =>
    refine nextWith_ite (fun _ => nextWith_next (.inl ⟨_, rfl, rfl⟩)) fun _ => ?_
    refine nextWith_ite (fun _ => nextWith_next (.inr (.inr ⟨s.freeCount, rfl⟩))) fun _ => ?_
    exact nextWith_ite (fun _ => nextWith_next (.inl ⟨_, rfl, rfl⟩)) fun _ => nextWith_next (.inr (.inr ⟨_, rfl⟩))

/-- A release answers the state in LOADING with the supply at 2.9 V or above, or changes nothing. -/
theorem exec_resetRelease_cases (s : State) :
    NextWith (exec .resetRelease s) fun t => (t = coldState .loading s ∧ 2900 ≤ s.pins.supply) ∨ t = s :=
  nextWith_ite (fun h => nextWith_next (.inl ⟨rfl, h.2⟩)) fun _ => nextWith_next (.inr rfl)

/-! ### The invariants over a step -/

/-- The bounds and the levels, each kept. -/
structure KeepsInvariants (s t : State) : Prop where
  queue    : queueBound s → queueBound t
  schedule : scheduleBound s → scheduleBound t
  list     : listBound s → listBound t
  supply   : supplyHeld s → supplyHeld t
  levels   : pendingDistinct s → pendingDistinct t

theorem Keeps.invariants {s t : State} (h : Keeps s t) : KeepsInvariants s t where
  queue := h.frames
  schedule := h.events
  list := h.alarms.listed
  supply hs ht := by rw [h.supply]; exact hs fun e => ht (h.inReset e)
  levels := h.alarms.levels

theorem distinct_cold : AlarmUnit.cold.distinct := by
  intro c d _ _ ⟨g, hg⟩
  rw [AlarmUnit.at, AlarmUnit.cold, getD_replicate_same] at hg
  cases hg

theorem keepsInvariants_coldState {st : StationState} {s u : State}
    (h : st ≠ .inReset → 2900 ≤ u.pins.supply) : KeepsInvariants s (coldState st u) where
  queue _ := Nat.zero_le _
  schedule _ := Nat.zero_le _
  list _ := Nat.zero_le _
  supply _ := h
  levels _ := distinct_cold

theorem exec_keepsInvariants (c : Instr) (s : State) : NextWith (exec c s) (KeepsInvariants s) := by
  have by_keeps {P : State → Prop} (hp : ∀ t, P t → KeepsInvariants s t) (h : NextWith (exec c s) P) :
      NextWith (exec c s) (KeepsInvariants s) := h.imp fun t ⟨e, k⟩ => ⟨e, hp t k⟩
  cases hc : movesCounter c
  · exact by_keeps (fun t k => k.1.invariants) (exec_kept c s hc)
  · cases c with
    | coldReset k =>
      refine by_keeps (fun t h => ?_) (exec_coldReset_cases k s)
      rcases h with ⟨u, rfl, _⟩ | ⟨mv, rfl, hmv⟩ | ⟨n, rfl⟩
      · exact keepsInvariants_coldState (absurd rfl)
      · exact ⟨id, id, id, fun _ _ => hmv, id⟩
      · exact ⟨id, id, id, id, id⟩
    | resetRelease =>
      refine by_keeps (fun t h => ?_) (exec_resetRelease_cases s)
      rcases h with ⟨rfl, hs⟩ | rfl
      · exact keepsInvariants_coldState fun _ => hs
      · exact ⟨id, id, id, id, id⟩
    | encoderPulse b =>
      obtain ⟨_, _, _, _, t, e, k⟩ := exec_encoderPulse_kept b s
      have held := k.toKeeps.invariants
      exact ⟨t, e, held.queue, held.schedule, held.list, held.supply, held.levels⟩
    | _ => cases hc

theorem keeps_freeOrder (n : Nat) (l : List Instr) (s : State) : KeepsShut s (freeOrder n l s).2 := by
  induction n generalizing l s with
  | zero => exact .refl s
  | succ n ih =>
    unfold freeOrder
    simp only []
    split
    · exact keeps_freeIndex _ s
    · exact (keeps_freeIndex _ s).trans (ih _ _)

theorem KeepsInvariants.trans {s t u : State} (h : KeepsInvariants s t) (k : KeepsInvariants t u) : KeepsInvariants s u :=
  ⟨k.queue ∘ h.queue, k.schedule ∘ h.schedule, k.list ∘ h.list, k.supply ∘ h.supply, k.levels ∘ h.levels⟩

theorem keepsInvariants_tickTimers (s : State) : KeepsInvariants s (tickTimers s) := ⟨id, id, id, id, id⟩

/-- A millisecond of the station's own time writes the waiting commands and the record of expiries besides. -/
theorem keepsInvariants_tick (s : State) : ∃ u p e, KeepsInvariants s u ∧ tick s = { u with pending := p, expiries := e } :=
  ⟨_, _, _, (keepsInvariants_tickTimers s).trans (keeps_freeOrder _ _ _).toKeeps.invariants, rfl⟩

/-- Every step keeps every invariant. -/
theorem step_keepsInvariants {s t : State} (h : step s = .next t) : KeepsInvariants s t := by
  unfold step at h
  split at h
  · obtain ⟨u, _, _, ⟨q, e, l, p, d⟩, eq⟩ := keepsInvariants_tick s
    rw [eq] at h
    cases h
    exact ⟨q, e, l, p, d⟩
  · rename_i c cs _
    obtain ⟨u, hu, q, e, l, p, d⟩ := exec_keepsInvariants c { s with pending := cs }
    rw [hu] at h
    cases h
    exact ⟨q, e, l, p, d⟩

/-- Every command answers a next state and leaves the waiting commands. -/
theorem exec_keeps_pending (c : Instr) (s : State) : NextWith (exec c s) fun t => t.pending = s.pending := by
  cases hc : movesCounter c
  · exact (exec_kept c s hc).imp fun t ⟨e, k⟩ => ⟨e, k.1.pending⟩
  · cases c with
    | coldReset k =>
      refine (exec_coldReset_cases k s).imp fun t ⟨e, h⟩ => ⟨e, ?_⟩
      rcases h with ⟨u, rfl, hu⟩ | ⟨mv, rfl, _⟩ | ⟨n, rfl⟩
      · exact hu
      · rfl
      · rfl
    | resetRelease =>
      refine (exec_resetRelease_cases s).imp fun t ⟨e, h⟩ => ⟨e, ?_⟩
      rcases h with ⟨rfl, _⟩ | rfl <;> rfl
    | encoderPulse b =>
      obtain ⟨_, _, _, _, t, e, k⟩ := exec_encoderPulse_kept b s
      exact ⟨t, e, k.pending⟩
    | _ => cases hc

end Sys2Proof.Machine
end

section
open Sys2Proof Sys2Proof.Machine

/-- Settles O56: read off what every step keeps. -/
theorem stepKeepsTheBounds : Obligations.StepKeepsTheBounds :=
  ⟨fun _ _ hs h => (step_keepsInvariants h).queue hs, fun _ _ hs h => (step_keepsInvariants h).schedule hs,
    fun _ _ hs h => (step_keepsInvariants h).list hs, fun _ _ hs h => (step_keepsInvariants h).supply hs⟩

/-- Settles O57: read off what every step keeps; a code joins the pending set only above every pending level. -/
theorem stepKeepsPendingLevelsDistinct : Obligations.StepKeepsPendingLevelsDistinct :=
  fun _ _ hs h => (step_keepsInvariants h).levels hs

/-- Settles O2: by cases on the command. -/
theorem everyCommandKeepsTheQueue : Obligations.EveryCommandKeepsTheQueue := exec_keeps_pending

/-- Settles O1: the two arms of a step. -/
theorem stepRunsTheFront : Obligations.StepRunsTheFront :=
  ⟨fun _ _ _ h => by simp only [step, h], fun _ h => by simp only [step, h]⟩

/-- Settles O58: at reset every list is empty, the supply stands at 3.3 V and no code is pending. -/
theorem resetMeetsTheInvariants : Obligations.ResetMeetsTheInvariants :=
  ⟨Nat.zero_le _, Nat.zero_le _, Nat.zero_le _, fun _ => by decide, distinct_cold⟩

end

section
/-! Reset values and the outputs that follow from the state: O3, O4, O55. -/
namespace Sys2Proof.Machine

/-! ### Which station state is active -/

theorem active_eq_true_iff (s : State) :
    s.active = true ↔ s.loader.station = .joining ∨ s.loader.station = .running := by
  simp [State.active]

theorem running_eq_true_iff (s : State) : s.running = true ↔ s.loader.station = .running := by
  simp [State.running]

theorem running_of_not_active {s : State} (h : s.active = false) : s.running = false := by
  have : s.active ≠ true := by simp [h]
  cases hr : s.running
  · rfl
  · exact absurd ((active_eq_true_iff s).mpr (.inr ((running_eq_true_iff s).mp hr))) this

/-! ### Cold blocks give safe outputs (R29) -/

theorem firing_cold (img : Image) (k : Nat) (c : Channel) (h : (Heat.cold img).channels[k]? = some c) :
    c.firing = false := by
  obtain ⟨cfg, _, rfl⟩ := List.mem_map.mp (List.mem_of_getElem? h)
  rfl

theorem not_active_of_cold {s : State} {st : StationState} (hl : s.loader = Loader.cold st)
    (hst : st = .inReset ∨ st = .loading) : s.active = false := by
  unfold State.active
  rw [hl]
  rcases hst with rfl | rfl <;> rfl

/-- In reset and in LOADING cold blocks drive the safe state. -/
theorem safeOutputs_of_cold {s : State} {st : StationState} (hl : s.loader = Loader.cold st)
    (hst : st = .inReset ∨ st = .loading) (h : blocksCold s) : safeOutputs s := by
  have idle := not_active_of_cold hl hst
  have still := running_of_not_active idle
  obtain ⟨_, _, hboard, _, hheat, _, hflux, hpot, hfume, _⟩ := h
  refine ⟨⟨fun k => ?_, ?_, ?_, ?_, ?_, ?_⟩, ?_, ?_, ?_, ?_, ?_⟩
  · unfold heaterOn
    split
    · rename_i c hc
      rw [channel, hheat] at hc
      exact firing_cold _ k c hc
    · rfl
  · simp only [nozzlesOpen, hflux, Flux.cold]
  · simp only [feederOn, hpot, Pot.cold]
  · simp [pumpReferences, pumpGrades, still]
  · simp [gateOpen, hboard, Tracker.cold]
  · simp [runPermit, still]
  · rw [hfume]; rfl
  · simp [hornOn, idle]
  · simp [redOn, idle]
  · simp [amberOn, idle]
  · simp [greenOn, still]

theorem blocksCold_coldState (st : StationState) (s : State) : blocksCold (coldState st s) :=
  ⟨rfl, rfl, rfl, rfl, rfl, rfl, rfl, rfl, rfl, rfl⟩

theorem safeOutputs_coldState {st : StationState} (hst : st = .inReset ∨ st = .loading) (s : State) :
    safeOutputs (coldState st s) :=
  safeOutputs_of_cold rfl hst (blocksCold_coldState st s)

/-- What the statement says of a reset answered with every block cold. -/
theorem nextWith_coldState {o : Result} {st : StationState} (hst : st = .inReset ∨ st = .loading) {s : State}
    {p : Pins} (ho : o = .next (coldState st s)) (hp : s.pins = p) :
    ∃ t, o = .next t ∧ t.loader = Loader.cold st ∧ blocksCold t ∧ t.pins = p ∧ safeOutputs t :=
  ⟨_, ho, rfl, blocksCold_coldState st s, hp, safeOutputs_coldState hst s⟩

theorem at_cold (c : Nat) : AlarmUnit.cold.at c = .idle := by
  rw [AlarmUnit.at, AlarmUnit.cold, getD_replicate_same]

/-! ### The run permit (R74) -/

/-- Where a level-7 code leaves the permit. -/
theorem withdraws_eq_false_iff (a : AlarmUnit) (c : Nat) :
    withdraws a c = false ↔
      (levelOf c = 7 → a.at c = .idle ∨ (a.at c = .inService ∧ alarmLive c = false ∧ alarmRecovery c = .resetOnly)) := by
  unfold withdraws
  cases a.at c <;> simp

theorem alarmRecovery_eq_resetOnly_iff (c : Nat) : alarmRecovery c = .resetOnly ↔ 12 ≤ c ∧ c ≤ 17 := by
  unfold alarmRecovery
  split
  · simp_all [inLimits]
  · split <;> simp_all [inLimits]

theorem alarmLive_eq_true_iff (c : Nat) : alarmLive c = true ↔
    (6 ≤ c ∧ c ≤ 11) ∨ c ∈ [30, 34, 35, 37, 40, 41, 43, 44, 45, 46, 48, 49, 50, 51, 53, 54, 55] := by
  simp [alarmLive, inLimits]

theorem alarmLive_of_resetOnly {c : Nat} (h : 12 ≤ c ∧ c ≤ 17) : alarmLive c = false := by
  rw [← Bool.not_eq_true, alarmLive_eq_true_iff]
  simp only [List.mem_cons, List.not_mem_nil, or_false]
  omega

end Sys2Proof.Machine
end

section
open Sys2Proof Sys2Proof.Machine

/-- Settles O3: each value is the cold one, by its definition. -/
theorem resetValues : Obligations.ResetValues := by
  have safe : safeOutputs State.reset :=
    safeOutputs_of_cold rfl (.inr rfl) ⟨rfl, rfl, rfl, rfl, rfl, rfl, rfl, rfl, rfl, rfl⟩
  have first : nextLocal 65535 [] = 65280 := by rfl
  unfold Obligations.ResetValues
  refine ⟨rfl, rfl, rfl, rfl, rfl, rfl, rfl, rfl, rfl, rfl, rfl, rfl, rfl, rfl, rfl, rfl, rfl, rfl, first, rfl, rfl,
    rfl, rfl, rfl, rfl, rfl, rfl, rfl, rfl, rfl, rfl, rfl, rfl, rfl, rfl, rfl, rfl, rfl, rfl, rfl, rfl, rfl, rfl, rfl,
    rfl, rfl, rfl, rfl, rfl, at_cold, safe⟩

/-- Settles O4: by the cause of the reset, and by the supply at a release. -/
theorem resetCommandsGiveColdBlocks : Obligations.ResetCommandsGiveColdBlocks := by
  refine ⟨fun cause mv s h => ?_, fun mv s h => ?_, fun ns s h => ?_, fun ns s h => ?_, fun ns s h k => ?_,
    fun s hr hs => ?_, fun s h => ?_⟩
  · rcases h with rfl | ⟨rfl, low⟩
    · exact nextWith_coldState (.inl rfl) rfl rfl
    · exact nextWith_coldState (.inl rfl) (if_pos low) rfl
  · exact if_neg (Nat.not_lt.mpr h)
  · exact nextWith_coldState (.inl rfl) (if_pos h) rfl
  · have short : ¬resetAlways ≤ ns := by unfold resetAlways; omega
    exact (if_neg short).trans (if_pos h)
  · have short : ¬resetAlways ≤ ns := Nat.not_le.mpr k
    have long : ¬ns < resetIgnored := Nat.not_lt.mpr h
    have between : exec (.coldReset (.resetPin ns)) s =
        if Config.freeChoice s.freeCount % 2 = 1 then .next (coldState .inReset { s with freeCount := s.freeCount + 1 })
        else .next { s with freeCount := s.freeCount + 1 } := (if_neg short).trans (if_neg long)
    rw [between]
    split
    · exact ⟨_, rfl, .inr ⟨rfl, blocksCold_coldState _ _, rfl, safeOutputs_coldState (.inl rfl) _⟩⟩
    · exact ⟨_, rfl, .inl rfl⟩
  · exact nextWith_coldState (.inr rfl) (if_pos ⟨hr, hs⟩) rfl
  · refine if_neg fun ⟨hr, hs⟩ => ?_
    rcases h with h | h
    · exact h hr
    · exact absurd hs (Nat.not_le.mpr h)

/-- Settles O55: each output is a search through the records, the codes or the line alarm list. -/
theorem runPermitHornAndBeacon : Obligations.RunPermitHornAndBeacon := by
  refine ⟨fun s => ?_, fun s ha => ?_, fun s ha => ?_⟩
  · have codes : ((List.range 64).any (withdraws s.alarm)) = false ↔ ∀ c, c < 64 → levelOf c = 7 →
        s.alarm.at c = .idle ∨ (s.alarm.at c = .inService ∧ 12 ≤ c ∧ c ≤ 17) := by
      simp only [List.any_eq_false, List.mem_range, Bool.not_eq_true, withdraws_eq_false_iff,
        alarmRecovery_eq_resetOnly_iff]
      refine forall₃_congr fun c _ _ => or_congr_right (and_congr_right fun _ => ⟨fun h => h.2, fun h => ⟨?_, h⟩⟩)
      exact alarmLive_of_resetOnly h
    simp only [runPermit, Bool.and_eq_true, Bool.not_eq_true', codes, running_eq_true_iff, and_assoc]
    simp
  · simp only [hornOn, redOn, amberOn, greenOn, ha, running_eq_true_iff, List.any_eq_true, inLimits, Bool.and_eq_true,
      Bool.or_eq_true, Bool.not_eq_true', decide_eq_true_eq, List.isEmpty_iff, true_and, Bool.not_true, Bool.false_eq_true,
      false_or]
  · simp [hornOn, redOn, amberOn, greenOn, ha, running_of_not_active ha]

end

section
/-! The settle detector (6.5, 10.1), the ACK button (11.5) and the zero-cross (6.8): O38, O52, O40. -/
namespace Sys2Proof.Machine

theorem repeated_succ {α : Type} (f : α → α) (n : Nat) (x : α) : repeated f (n + 1) x = f (repeated f n x) := by
  induction n generalizing x with
  | zero => rfl
  | succ n ih => exact ih (f x)

/-! ### The settle detector (R108, R109) -/

section
variable {p : DetParams} {r : Nat}

theorem feed_unsettled_short (h : r + 1 < p.n) : Detector.feed p .tight ⟨.unsettled, r⟩ = ⟨.unsettled, r + 1⟩ :=
  if_neg (Nat.not_le.mpr h)

theorem feed_unsettled_last (h : p.n ≤ r + 1) : Detector.feed p .tight ⟨.unsettled, r⟩ = ⟨.confirming, 0⟩ := if_pos h

theorem feed_confirming_short (h : r + 1 < p.k) : Detector.feed p .tight ⟨.confirming, r⟩ = ⟨.confirming, r + 1⟩ :=
  if_neg (Nat.not_le.mpr h)

theorem feed_confirming_last (h : p.k ≤ r + 1) : Detector.feed p .tight ⟨.confirming, r⟩ = ⟨.settled, 0⟩ := if_pos h

theorem feed_run_ended {b : Band} (h : b ≠ .tight) :
    Detector.feed p b ⟨.unsettled, r⟩ = ⟨.unsettled, 0⟩ ∧ Detector.feed p b ⟨.confirming, r⟩ = ⟨.unsettled, 0⟩ := by
  cases b
  · exact absurd rfl h
  all_goals exact ⟨rfl, rfl⟩

theorem feed_settled {b : Band} (h : b ≠ .outside) : Detector.feed p b ⟨.settled, r⟩ = ⟨.settled, r⟩ := by
  cases b
  · rfl
  · rfl
  · exact absurd rfl h

/-- After fewer than N tight values the detector counts its run. -/
theorem repeated_feed_unsettled {m : Nat} (h : m < p.n) :
    repeated (Detector.feed p .tight) m Detector.cold = ⟨.unsettled, m⟩ := by
  induction m with
  | zero => rfl
  | succ m ih => rw [repeated_succ, ih (by omega), feed_unsettled_short h]

/-- After N tight values and fewer than K more the detector confirms. -/
theorem repeated_feed_confirming {m : Nat} (hn : 1 ≤ p.n) (h : m < p.k) :
    repeated (Detector.feed p .tight) (p.n + m) Detector.cold = ⟨.confirming, m⟩ := by
  induction m with
  | zero =>
    obtain ⟨n, hp⟩ : ∃ n, p.n = n + 1 := ⟨p.n - 1, by omega⟩
    rw [Nat.add_zero, hp, repeated_succ, repeated_feed_unsettled (by omega), feed_unsettled_last (by omega)]
  | succ m ih => rw [← Nat.add_assoc, repeated_succ, ih (by omega), feed_confirming_short h]

/-- The N + K-th tight value settles it. -/
theorem repeated_feed_settled (hn : 1 ≤ p.n) (hk : 1 ≤ p.k) :
    repeated (Detector.feed p .tight) (p.n + p.k) Detector.cold = ⟨.settled, 0⟩ := by
  obtain ⟨k, hp⟩ : ∃ k, p.k = k + 1 := ⟨p.k - 1, by omega⟩
  rw [hp, ← Nat.add_assoc, repeated_succ, repeated_feed_confirming hn (by omega), feed_confirming_last (by omega)]

theorem repeated_feed_not_settled {m : Nat} (hn : 1 ≤ p.n) (h : m < p.n + p.k) :
    (repeated (Detector.feed p .tight) m Detector.cold).phase ≠ .settled := by
  by_cases hm : m < p.n
  · rw [repeated_feed_unsettled hm]; nofun
  · obtain ⟨j, rfl⟩ : ∃ j, m = p.n + j := ⟨m - p.n, by omega⟩
    rw [repeated_feed_confirming hn (by omega)]; nofun

end

/-- Where a value lies by two tests, the tight one first. -/
theorem band_iff {P Q : Prop} [Decidable P] [Decidable Q] :
    ((if P then Band.tight else if Q then .relaxed else .outside) = .tight ↔ P) ∧
    ((if P then Band.tight else if Q then .relaxed else .outside) = .relaxed ↔ ¬P ∧ Q) ∧
    ((if P then Band.tight else if Q then .relaxed else .outside) = .outside ↔ ¬P ∧ ¬Q) := by
  by_cases hP : P <;> by_cases hQ : Q <;> simp [hP, hQ]

theorem natAbs_le_iff_max (v t : Int) (b : Nat) : (v - t).natAbs ≤ b ↔ max (v - t) (t - v) ≤ (b : Int) := by omega

/-! ### Firing (R121) -/

theorem fireCycle_acc (c : Channel) : c.fireCycle.acc + (if c.fireCycle.firing then 1000 else 0) = c.acc + c.duty := by
  unfold Channel.fireCycle
  split
  · simp; omega
  · simp

theorem fireCycle_acc_le {c : Channel} (ha : c.acc ≤ 999) (hd : c.duty ≤ 1000) : c.fireCycle.acc ≤ 999 := by
  unfold Channel.fireCycle
  split <;> simp only [] <;> omega

@[simp] theorem fireCycle_duty (c : Channel) : c.fireCycle.duty = c.duty := by
  unfold Channel.fireCycle
  split <;> rfl

@[simp] theorem fireCycle_mode (c : Channel) : c.fireCycle.mode = c.mode := by
  unfold Channel.fireCycle
  split <;> rfl

@[simp] theorem repeated_fireCycle_duty (c : Channel) (n : Nat) : (repeated Channel.fireCycle n c).duty = c.duty := by
  induction n with
  | zero => rfl
  | succ n ih => rw [repeated_succ, fireCycle_duty, ih]

theorem repeated_fireCycle_acc_le {c : Channel} (ha : c.acc ≤ 999) (hd : c.duty ≤ 1000) (n : Nat) :
    (repeated Channel.fireCycle n c).acc ≤ 999 := by
  induction n with
  | zero => exact ha
  | succ n ih => rw [repeated_succ]; exact fireCycle_acc_le ih (by simpa using hd)

/-- How many of the first n cycles of a channel fire. -/
def firedCycles (c : Channel) (n : Nat) : Nat :=
  ((List.range n).filter fun i => (repeated Channel.fireCycle (i + 1) c).firing).length

theorem firedCycles_succ (c : Channel) (n : Nat) :
    firedCycles c (n + 1) = firedCycles c n + (if (repeated Channel.fireCycle (n + 1) c).firing then 1 else 0) := by
  simp only [firedCycles, List.range_succ, List.filter_append, List.length_append]
  cases h : (repeated Channel.fireCycle (n + 1) c).firing <;> simp [h]

/-- What the cycles add to the accumulator is fired off in thousands. -/
theorem acc_add_mul_duty (c : Channel) (n : Nat) :
    c.acc + n * c.duty = 1000 * firedCycles c n + (repeated Channel.fireCycle n c).acc := by
  induction n with
  | zero => simp [firedCycles, repeated]
  | succ n ih =>
    have step := fireCycle_acc (repeated Channel.fireCycle n c)
    rw [← repeated_succ Channel.fireCycle, repeated_fireCycle_duty] at step
    rw [firedCycles_succ, Nat.succ_mul]
    split at step <;> simp_all <;> omega

/-! ### What the end of a command leaves -/

/-- What `steady` does not forget is what it was before the end of the command. -/
theorem finish_of_steady {α : Type} (f : State → α) (hf : ∀ x, f (steady x) = f x) (s : State) : f (finish s) = f s := by
  rw [← hf, steady_finish, hf]

section
variable (s : State)

@[simp] theorem finish_loader : (finish s).loader = s.loader := finish_of_steady (·.loader) (fun _ => rfl) s
@[simp] theorem finish_pins : (finish s).pins = s.pins := finish_of_steady (·.pins) (fun _ => rfl) s
@[simp] theorem finish_pending : (finish s).pending = s.pending := finish_of_steady (·.pending) (fun _ => rfl) s
@[simp] theorem finish_allot : (finish s).allot = s.allot := finish_of_steady (·.allot) (fun _ => rfl) s
@[simp] theorem finish_freeCount : (finish s).freeCount = s.freeCount := finish_of_steady (·.freeCount) (fun _ => rfl) s
@[simp] theorem finish_answer : (finish s).link.answer = s.link.answer := finish_of_steady (·.link.answer) (fun _ => rfl) s
@[simp] theorem finish_isolation : (finish s).link.isolation = s.link.isolation := finish_of_steady (·.link.isolation) (fun _ => rfl) s
@[simp] theorem finish_badCount : (finish s).link.badCount = s.link.badCount := finish_of_steady (·.link.badCount) (fun _ => rfl) s
@[simp] theorem finish_peers : (finish s).link.peers = s.link.peers := finish_of_steady (·.link.peers) (fun _ => rfl) s
@[simp] theorem finish_counter : (finish s).pos.counter = s.pos.counter := finish_of_steady (·.pos.counter) (fun _ => rfl) s
@[simp] theorem finish_tally : (finish s).pos.tally = s.pos.tally := finish_of_steady (·.pos.tally) (fun _ => rfl) s
@[simp] theorem finish_entryS : (finish s).pos.entryS = s.pos.entryS := finish_of_steady (·.pos.entryS) (fun _ => rfl) s
@[simp] theorem finish_exitS : (finish s).pos.exitS = s.pos.exitS := finish_of_steady (·.pos.exitS) (fun _ => rfl) s
@[simp] theorem finish_expected : (finish s).board.expected = s.board.expected := finish_of_steady (·.board.expected) (fun _ => rfl) s
@[simp] theorem finish_gate : (finish s).board.gate = s.board.gate := finish_of_steady (·.board.gate) (fun _ => rfl) s
@[simp] theorem finish_spacing : (finish s).board.spacing = s.board.spacing := finish_of_steady (·.board.spacing) (fun _ => rfl) s
@[simp] theorem finish_channels : (finish s).heat.channels = s.heat.channels := finish_of_steady (·.heat.channels) (fun _ => rfl) s
@[simp] theorem finish_mainsMissing : (finish s).heat.mainsMissing = s.heat.mainsMissing := finish_of_steady (·.heat.mainsMissing) (fun _ => rfl) s
@[simp] theorem finish_mainsAge : (finish s).heat.mainsAge = s.heat.mainsAge := finish_of_steady (·.heat.mainsAge) (fun _ => rfl) s
@[simp] theorem finish_noFlow : (finish s).flux.noFlow = s.flux.noFlow := finish_of_steady (·.flux.noFlow) (fun _ => rfl) s
@[simp] theorem finish_supplyOk : (finish s).flux.supplyOk = s.flux.supplyOk := finish_of_steady (·.flux.supplyOk) (fun _ => rfl) s
@[simp] theorem finish_tankLow : (finish s).flux.low = s.flux.low := finish_of_steady (·.flux.low) (fun _ => rfl) s
@[simp] theorem finish_tankEmpty : (finish s).flux.empty = s.flux.empty := finish_of_steady (·.flux.empty) (fun _ => rfl) s
@[simp] theorem finish_ring : (finish s).pot.ring = s.pot.ring := finish_of_steady (·.pot.ring) (fun _ => rfl) s
@[simp] theorem finish_avg : (finish s).pot.avg = s.pot.avg := finish_of_steady (·.pot.avg) (fun _ => rfl) s
@[simp] theorem finish_level : (finish s).pot.level = s.pot.level := finish_of_steady (·.pot.level) (fun _ => rfl) s
@[simp] theorem finish_age : (finish s).pot.age = s.pot.age := finish_of_steady (·.pot.age) (fun _ => rfl) s
@[simp] theorem finish_check : (finish s).pot.check = s.pot.check := finish_of_steady (·.pot.check) (fun _ => rfl) s
@[simp] theorem finish_feed : (finish s).pot.feed = s.pot.feed := finish_of_steady (·.pot.feed) (fun _ => rfl) s
@[simp] theorem finish_budget : (finish s).pot.budget = s.pot.budget := finish_of_steady (·.pot.budget) (fun _ => rfl) s
@[simp] theorem finish_measured : (finish s).fume.measured = s.fume.measured := finish_of_steady (·.fume.measured) (fun _ => rfl) s
@[simp] theorem finish_filter : (finish s).fume.filter = s.fume.filter := finish_of_steady (·.fume.filter) (fun _ => rfl) s
@[simp] theorem finish_loaded : (finish s).fume.loaded = s.fume.loaded := finish_of_steady (·.fume.loaded) (fun _ => rfl) s
@[simp] theorem finish_blocked : (finish s).fume.blocked = s.fume.blocked := finish_of_steady (·.fume.blocked) (fun _ => rfl) s
@[simp] theorem finish_det : (finish s).fume.det = s.fume.det := finish_of_steady (·.fume.det) (fun _ => rfl) s
@[simp] theorem finish_lost : (finish s).fume.lost = s.fume.lost := finish_of_steady (·.fume.lost) (fun _ => rfl) s
@[simp] theorem finish_feedback : (finish s).fume.feedback = s.fume.feedback := finish_of_steady (·.fume.feedback) (fun _ => rfl) s
@[simp] theorem finish_adopted : (finish s).fume.adopted = s.fume.adopted := finish_of_steady (·.fume.adopted) (fun _ => rfl) s
@[simp] theorem finish_cfg : (finish s).cfg = s.cfg := finish_of_steady (·.cfg) (fun _ => rfl) s
@[simp] theorem finish_me : (finish s).me = s.me := finish_of_steady (·.me) (fun _ => rfl) s
@[simp] theorem finish_active : (finish s).active = s.active := finish_of_steady (·.active) (fun _ => rfl) s
@[simp] theorem finish_running : (finish s).running = s.running := finish_of_steady (·.running) (fun _ => rfl) s

end

@[simp] theorem finish_channel (s : State) (k : Nat) : channel (finish s) k = channel s k := by
  simp [channel]

theorem channel_zeroCross (s : State) (k : Nat) : channel (zeroCross s) k = (channel s k).map Channel.fireCycle :=
  List.getElem?_map ..

theorem channel_mainsGone (s : State) (k : Nat) : channel (mainsGone s) k = (channel s k).map Channel.mainsLost :=
  List.getElem?_map ..

/-- With mains gone every heater is off. -/
theorem heatersOff_mainsGone (s : State) : heatersOff (finish (mainsGone s)) := by
  intro k
  unfold heaterOn
  rw [finish_channel, channel_mainsGone]
  cases channel s k <;> rfl

end Sys2Proof.Machine
end

section
open Sys2Proof Sys2Proof.Machine

/-- Settles O38: by induction on the number of tight values, and by the bands' two tests. -/
theorem detectorSettlesAfterNPlusK : Obligations.DetectorSettlesAfterNPlusK := by
  refine ⟨fun p hn hk => ⟨fun m hm => repeated_feed_not_settled hn hm, repeated_feed_settled hn hk, fun r => ?_⟩,
    fun p v t => ?_⟩
  · exact ⟨feed_unsettled_short, fun h => feed_unsettled_last (Nat.le_of_eq h.symm), feed_confirming_short,
      fun h => feed_confirming_last (Nat.le_of_eq h.symm), fun b hb => feed_run_ended hb, fun b hb => feed_settled hb, rfl⟩
  · obtain ⟨tight2, relaxed2, outside2⟩ := @band_iff ((v - t).natAbs ≤ p.tight) ((v - t).natAbs ≤ p.relaxed) _ _
    obtain ⟨tight1, relaxed1, outside1⟩ := @band_iff (t - p.tight ≤ v) (t - p.relaxed ≤ v) _ _
    refine ⟨tight2.trans ?_, relaxed2.trans ?_, outside2.trans ?_, tight1.trans ?_, relaxed1.trans ?_, outside1.trans ?_⟩
    · simp only [natAbs_le_iff_max]
    · simp only [natAbs_le_iff_max]; omega
    · simp only [natAbs_le_iff_max]; omega
    all_goals omega

/-- Settles O52: by where the button's debounce stands and whether an entry is PENDING. -/
theorem ackButton : Obligations.AckButton := by
  have press (s : State) (ha : s.active = true) (hk : s.alarm.ack ≠ .spent) :
      exec .ackButtonPress s = .next (finish (takePress { s with alarm := { s.alarm with ack := .spent } })) := by
    simp [exec, execAckButtonPress, ha, hk]
  refine ⟨fun s e ha hk he => ?_, fun s ha hk he => ?_, fun s ha hk => ?_, fun s n ha hk => ?_, fun s ha hk => ?_⟩
  · rw [press s ha hk]; simp only [takePress, firstPending, he]
  · rw [press s ha hk]; simp only [takePress, firstPending, he]
  · simp [exec, execAckButtonPress, hk]
  · refine ⟨_, if_pos ha, rfl, ?_⟩
    simp only [hk]; rfl
  · refine ⟨_, if_pos ha, rfl, ?_⟩
    show s.alarm.ack.change false = .released 0
    cases h : s.alarm.ack with
    | released n => exact absurd h (hk n)
    | held n => rfl
    | spent => rfl

/-- Settles O40: one cycle's arithmetic, by induction over a run of cycles, and what mains missing writes. -/
theorem zeroCrossFiresAndMissingMainsStops : Obligations.ZeroCrossFiresAndMissingMainsStops := by
  refine ⟨fun s ha => ?_, fun c n ha hd => ?_, fun s ha => ?_⟩
  · refine ⟨_, if_pos ha, finish_mainsMissing _, finish_mainsAge _, ?_, fun k c hc => ⟨c.fireCycle, ?_, ?_, ?_, ?_, ?_, ?_⟩⟩
    · rw [finish_channels]; exact List.length_map ..
    · rw [finish_channel, channel_zeroCross, hc]; rfl
    · unfold Channel.fireCycle; split <;> simp [*]
    · unfold Channel.fireCycle; split <;> rfl
    · exact fireCycle_acc_le
    · exact fireCycle_duty c
    · exact fireCycle_mode c
  · exact ⟨by simpa using List.length_filter_le (fun i => (repeated Channel.fireCycle (i + 1) c).firing) (List.range n),
      repeated_fireCycle_acc_le ha hd n, acc_add_mul_duty c n⟩
  · refine ⟨_, if_pos ha, finish_mainsMissing _, heatersOff_mainsGone s,
      fun k c hc => ⟨c.mainsLost, ?_, rfl, rfl, rfl, rfl, rfl, rfl, rfl⟩⟩
    rw [finish_channel, channel_mainsGone, hc]; rfl

end

section
/-! The transmit queue (R7, R10, R11): what queueing a frame writes, where the frame stands, and which frame a full
queue gives up. -/
namespace Sys2Proof.Machine

/-! ### What queueing leaves alone -/

section
variable (b : Block) (x : BitVec 5) (y : Body) (s : State)

@[simp] theorem enqueue_loader : (enqueue b x y s).loader = s.loader := by
  obtain ⟨q, d, o, n, h⟩ := enqueue_eq b x y s; rw [h]
@[simp] theorem enqueue_pins : (enqueue b x y s).pins = s.pins := by
  obtain ⟨q, d, o, n, h⟩ := enqueue_eq b x y s; rw [h]
@[simp] theorem enqueue_board : (enqueue b x y s).board = s.board := by
  obtain ⟨q, d, o, n, h⟩ := enqueue_eq b x y s; rw [h]
@[simp] theorem enqueue_recipe : (enqueue b x y s).recipe = s.recipe := by
  obtain ⟨q, d, o, n, h⟩ := enqueue_eq b x y s; rw [h]
@[simp] theorem enqueue_heat : (enqueue b x y s).heat = s.heat := by
  obtain ⟨q, d, o, n, h⟩ := enqueue_eq b x y s; rw [h]
@[simp] theorem enqueue_allot : (enqueue b x y s).allot = s.allot := by
  obtain ⟨q, d, o, n, h⟩ := enqueue_eq b x y s; rw [h]
@[simp] theorem enqueue_flux : (enqueue b x y s).flux = s.flux := by
  obtain ⟨q, d, o, n, h⟩ := enqueue_eq b x y s; rw [h]
@[simp] theorem enqueue_pot : (enqueue b x y s).pot = s.pot := by
  obtain ⟨q, d, o, n, h⟩ := enqueue_eq b x y s; rw [h]
@[simp] theorem enqueue_fume : (enqueue b x y s).fume = s.fume := by
  obtain ⟨q, d, o, n, h⟩ := enqueue_eq b x y s; rw [h]
@[simp] theorem enqueue_alarm : (enqueue b x y s).alarm = s.alarm := by
  obtain ⟨q, d, o, n, h⟩ := enqueue_eq b x y s; rw [h]
@[simp] theorem enqueue_expiries : (enqueue b x y s).expiries = s.expiries := by
  obtain ⟨q, d, o, n, h⟩ := enqueue_eq b x y s; rw [h]
@[simp] theorem enqueue_counter : (enqueue b x y s).pos.counter = s.pos.counter := by
  obtain ⟨q, d, o, n, h⟩ := enqueue_eq b x y s; rw [h]
@[simp] theorem enqueue_tally : (enqueue b x y s).pos.tally = s.pos.tally := by
  obtain ⟨q, d, o, n, h⟩ := enqueue_eq b x y s; rw [h]
@[simp] theorem enqueue_schedule : (enqueue b x y s).pos.schedule = s.pos.schedule := by
  obtain ⟨q, d, o, n, h⟩ := enqueue_eq b x y s; rw [h]
@[simp] theorem enqueue_entryS : (enqueue b x y s).pos.entryS = s.pos.entryS := by
  obtain ⟨q, d, o, n, h⟩ := enqueue_eq b x y s; rw [h]
@[simp] theorem enqueue_exitS : (enqueue b x y s).pos.exitS = s.pos.exitS := by
  obtain ⟨q, d, o, n, h⟩ := enqueue_eq b x y s; rw [h]
@[simp] theorem enqueue_isolation : (enqueue b x y s).link.isolation = s.link.isolation := by
  obtain ⟨q, d, o, n, h⟩ := enqueue_eq b x y s; rw [h]
@[simp] theorem enqueue_peers : (enqueue b x y s).link.peers = s.link.peers := by
  obtain ⟨q, d, o, n, h⟩ := enqueue_eq b x y s; rw [h]
@[simp] theorem enqueue_badCount : (enqueue b x y s).link.badCount = s.link.badCount := by
  obtain ⟨q, d, o, n, h⟩ := enqueue_eq b x y s; rw [h]
@[simp] theorem enqueue_answer : (enqueue b x y s).link.answer = s.link.answer := by
  obtain ⟨q, d, o, n, h⟩ := enqueue_eq b x y s; rw [h]
@[simp] theorem enqueue_statusAge : (enqueue b x y s).link.statusAge = s.link.statusAge := by
  obtain ⟨q, d, o, n, h⟩ := enqueue_eq b x y s; rw [h]
@[simp] theorem enqueue_cfg : (enqueue b x y s).cfg = s.cfg := by simp [State.cfg]
@[simp] theorem enqueue_me : (enqueue b x y s).me = s.me := by simp [State.me]
@[simp] theorem enqueue_active : (enqueue b x y s).active = s.active := by simp [State.active]
@[simp] theorem enqueue_running : (enqueue b x y s).running = s.running := by simp [State.running]

end

/-! ### A frame in its place -/

@[simp] theorem kind_replacing (o n : Body) : (o.replacing n).kind = n.kind := by
  unfold Body.replacing; split <;> rfl

/-- No waiting frame of the kind of `e` stands in the queue. -/
def NoneWaiting (e : TxEntry) (q : List TxEntry) : Prop := ∀ x ∈ q, x.inTx = true ∨ x.key ≠ e.key

theorem replaceWaiting_of_noneWaiting {e : TxEntry} {q : List TxEntry} (h : NoneWaiting e q) :
    replaceWaiting e q = none := by
  induction q with
  | nil => rfl
  | cons x xs ih =>
    have tail : NoneWaiting e xs := fun y hy => h y (List.mem_cons_of_mem _ hy)
    unfold replaceWaiting
    rw [if_neg (by rcases h x (List.mem_cons_self ..) with i | i <;> simp [i]), ih tail]
    rfl

theorem replaceWaiting_append {e x : TxEntry} {pre post : List TxEntry} (hx : x.inTx = false) (hk : x.key = e.key)
    (h : NoneWaiting e pre) :
    replaceWaiting e (pre ++ x :: post) = some (pre ++ { e with body := x.body.replacing e.body } :: post) := by
  induction pre with
  | nil => simp [replaceWaiting, hx, hk]
  | cons y ys ih =>
    have tail : NoneWaiting e ys := fun z hz => h z (List.mem_cons_of_mem _ hz)
    rw [List.cons_append]
    unfold replaceWaiting
    rw [if_neg (by rcases h y (List.mem_cons_self ..) with i | i <;> simp [i]), ih tail]
    rfl

/-- The first waiting frame of a kind, or none. -/
theorem noneWaiting_or_split (e : TxEntry) (q : List TxEntry) :
    NoneWaiting e q ∨ ∃ pre x post, q = pre ++ x :: post ∧ x.inTx = false ∧ x.key = e.key ∧ NoneWaiting e pre := by
  induction q with
  | nil => exact .inl (by simp [NoneWaiting])
  | cons y ys ih =>
    by_cases hy : y.inTx = false ∧ y.key = e.key
    · exact .inr ⟨[], y, ys, rfl, hy.1, hy.2, by simp [NoneWaiting]⟩
    · have front : y.inTx = true ∨ y.key ≠ e.key := by
        by_cases i : y.inTx = true
        · exact .inl i
        · exact .inr fun k => hy ⟨by simpa using i, k⟩
      rcases ih with none | ⟨pre, x, post, rfl, hx, hk, hpre⟩
      · exact .inl (List.forall_mem_cons.mpr ⟨front, none⟩)
      · exact .inr ⟨y :: pre, x, post, rfl, hx, hk, List.forall_mem_cons.mpr ⟨front, hpre⟩⟩

/-- A frame that takes no other's place, with room in the queue. -/
theorem placeFrame_of_room {q : List TxEntry} {e : TxEntry} (h : e.body.replaces = false ∨ NoneWaiting e q)
    (hq : q.length < 12) : placeFrame q e = (insertByKey e q, none) := by
  have none : (if e.body.replaces then replaceWaiting e q else Option.none) = Option.none := by
    rcases h with h | h
    · simp [h]
    · simp [replaceWaiting_of_noneWaiting h]
  unfold placeFrame
  rw [none]
  exact if_pos hq

/-- A frame that takes the place of the waiting one of its kind. -/
theorem placeFrame_of_waiting {e x : TxEntry} {pre post : List TxEntry} (he : e.body.replaces = true)
    (hx : x.inTx = false) (hk : x.key = e.key) (h : NoneWaiting e pre) :
    placeFrame (pre ++ x :: post) e = (pre ++ { e with body := x.body.replacing e.body } :: post, none) := by
  unfold placeFrame
  rw [if_pos he, replaceWaiting_append hx hk h]

/-! ### Key order -/

/-- The queue stands in key order (R7). -/
abbrev KeyOrder (q : List TxEntry) : Prop := q.Pairwise (fun x y => x.key ≤ y.key)

theorem keyOrder_insertByKey {e : TxEntry} {q : List TxEntry} (h : KeyOrder q) : KeyOrder (insertByKey e q) := by
  induction q with
  | nil => exact List.pairwise_singleton ..
  | cons x xs ih =>
    obtain ⟨first, rest⟩ := List.pairwise_cons.mp h
    unfold insertByKey
    split
    · rename_i lt
      refine List.pairwise_cons.mpr ⟨fun y hy => ?_, h⟩
      rcases List.mem_cons.mp hy with rfl | hy
      · exact Nat.le_of_lt lt
      · exact Nat.le_trans (Nat.le_of_lt lt) (first y hy)
    · rename_i le
      refine List.pairwise_cons.mpr ⟨fun y hy => ?_, ih rest⟩
      rcases mem_insertByKey.mp hy with rfl | hy
      · exact Nat.le_of_not_lt le
      · exact first y hy

/-- In key order a frame stands after those of its key or a stronger one and before the weaker ones. -/
theorem insertByKey_eq {e : TxEntry} {q : List TxEntry} (h : KeyOrder q) :
    insertByKey e q = q.filter (fun x => decide (x.key ≤ e.key)) ++ e :: q.filter (fun x => decide (e.key < x.key)) := by
  induction q with
  | nil => rfl
  | cons x xs ih =>
    obtain ⟨first, rest⟩ := List.pairwise_cons.mp h
    unfold insertByKey
    split
    · rename_i lt
      have weaker : ∀ y ∈ x :: xs, e.key < y.key := List.forall_mem_cons.mpr
        ⟨lt, fun y hy => Nat.lt_of_lt_of_le lt (first y hy)⟩
      have none : (x :: xs).filter (fun y => decide (y.key ≤ e.key)) = [] :=
        List.filter_eq_nil_iff.mpr fun y hy => by simpa using weaker y hy
      have all : (x :: xs).filter (fun y => decide (e.key < y.key)) = x :: xs :=
        List.filter_eq_self.mpr fun y hy => by simpa using weaker y hy
      rw [none, all, List.nil_append]
    · rename_i le
      have le := Nat.le_of_not_lt le
      simp [ih rest, le, Nat.not_lt.mpr le]

/-- Placing a frame keeps the key order. -/
theorem keyOrder_placeFrame {q : List TxEntry} (e : TxEntry) (h : KeyOrder q) : KeyOrder (placeFrame q e).1 := by
  unfold placeFrame
  split
  · rename_i q' found
    split at found
    · rcases noneWaiting_or_split e q with none | ⟨pre, x, post, rfl, hx, hk, hpre⟩
      · rw [replaceWaiting_of_noneWaiting none] at found; cases found
      · rw [replaceWaiting_append hx hk hpre] at found
        cases found
        have same : TxEntry.key { e with body := x.body.replacing e.body } = x.key := by
          rw [hk]; exact congrArg Kind.num (kind_replacing ..)
        obtain ⟨before, after, across⟩ := List.pairwise_append.mp h
        obtain ⟨next, rest⟩ := List.pairwise_cons.mp after
        refine List.pairwise_append.mpr ⟨before, List.pairwise_cons.mpr ⟨fun y hy => same ▸ next y hy, rest⟩,
          fun y hy z hz => ?_⟩
        rcases List.mem_cons.mp hz with rfl | hz
        · exact same ▸ across y hy x (List.mem_cons_self ..)
        · exact across y hy z (List.mem_cons_of_mem _ hz)
    · cases found
  · split
    · exact keyOrder_insertByKey h
    · split
      · exact h
      · split
        · exact h
        · split
          · exact keyOrder_insertByKey (h.sublist (List.eraseIdx_sublist ..))
          · exact h

/-! ### The weakest waiting frame -/

/-- A waiting entry of the highest key so far is the weakest so far. -/
theorem weakestFrom_cons (i : Nat) (best : Option (Nat × Nat)) (x : TxEntry) (xs : List TxEntry) :
    weakestFrom i best (x :: xs) = weakestFrom (i + 1)
      (if x.inTx = false ∧ ∀ b, best = some b → b.2 ≤ x.key then some (i, x.key) else best) xs := by
  cases best <;> simp [weakestFrom]

theorem weakestFrom_of_weaker {i j k : Nat} {post : List TxEntry} (h : ∀ y ∈ post, y.inTx = true ∨ y.key < k) :
    weakestFrom i (some (j, k)) post = some j := by
  induction post generalizing i with
  | nil => rfl
  | cons y ys ih =>
    obtain ⟨first, rest⟩ := List.forall_mem_cons.mp h
    rw [weakestFrom_cons, if_neg, ih rest]
    rintro ⟨waits, highest⟩
    have := highest _ rfl
    rcases first with i | i
    · exact absurd i (by simp [waits])
    · exact absurd i (Nat.not_lt.mpr this)

theorem weakestFrom_append {i : Nat} {best : Option (Nat × Nat)} {w : TxEntry} {pre post : List TxEntry}
    (hw : w.inTx = false) (hpre : ∀ y ∈ pre, y.inTx = true ∨ y.key ≤ w.key)
    (hpost : ∀ y ∈ post, y.inTx = true ∨ y.key < w.key) (hb : ∀ b, best = some b → b.2 ≤ w.key) :
    weakestFrom i best (pre ++ w :: post) = some (i + pre.length) := by
  induction pre generalizing i best with
  | nil => rw [List.nil_append, weakestFrom_cons, if_pos ⟨hw, hb⟩, weakestFrom_of_weaker hpost]; rfl
  | cons y ys ih =>
    obtain ⟨first, rest⟩ := List.forall_mem_cons.mp hpre
    rw [List.cons_append, weakestFrom_cons, ih rest, List.length_cons]
    · congr 1; omega
    · intro b h
      split at h
      · rename_i taken
        cases h
        exact first.resolve_left (by simp [taken.1])
      · exact hb b h

/-- A full queue gives up its weakest waiting frame for a stronger one, and drops the new frame otherwise. -/
theorem placeFrame_of_full {pre post : List TxEntry} {w e : TxEntry} (hq : 12 ≤ (pre ++ w :: post).length)
    (hw : w.inTx = false) (h : e.body.replaces = false ∨ NoneWaiting e (pre ++ w :: post))
    (hpre : ∀ y ∈ pre, y.inTx = true ∨ y.key ≤ w.key) (hpost : ∀ y ∈ post, y.inTx = true ∨ y.key < w.key) :
    placeFrame (pre ++ w :: post) e =
      if e.key < w.key then (insertByKey e (pre ++ post), some w) else (pre ++ w :: post, some e) := by
  have none : (if e.body.replaces then replaceWaiting e (pre ++ w :: post) else Option.none) = Option.none := by
    rcases h with h | h
    · simp [h]
    · simp [replaceWaiting_of_noneWaiting h]
  have weakest : weakestFrom 0 Option.none (pre ++ w :: post) = some pre.length := by
    rw [weakestFrom_append hw hpre hpost (by simp), Nat.zero_add]
  have found : (pre ++ w :: post)[pre.length]? = some w := by simp
  have erased : (pre ++ w :: post).eraseIdx pre.length = pre ++ post := by
    rw [List.eraseIdx_append_of_length_le (Nat.le_refl _)]; simp
  unfold placeFrame
  rw [none]
  simp only []
  rw [if_neg (Nat.not_lt.mpr hq), weakest]
  simp only [found, erased]

/-! ### A queued frame waits -/

/-- A frame waits in the queue with a target and a body. -/
def Waits (s : State) (target : BitVec 5) (body : Body) : Prop :=
  ∃ e ∈ s.link.queue, e.inTx = false ∧ e.target = target ∧ e.body = body

theorem enqueue_queue (b : Block) (x : BitVec 5) (y : Body) (s : State) :
    (enqueue b x y s).link.queue = (placeFrame s.link.queue ⟨y, x, b, false, false⟩).1 := by
  unfold enqueue
  simp only []
  split
  · rfl
  · unfold dropFrame; split <;> rfl

theorem enqueue_discard (b : Block) (x : BitVec 5) (y : Body) (s : State) :
    (enqueue b x y s).link.discard = if (placeFrame s.link.queue ⟨y, x, b, false, false⟩).2 = none
      then s.link.discard else (s.link.discard + 1) % 256 := by
  unfold enqueue
  simp only []
  split
  · rename_i h; rw [if_pos h]
  · rename_i d h
    rw [if_neg (by rw [h]; nofun)]
    unfold dropFrame; split <;> rfl

/-- With room in the queue nothing is dropped. -/
theorem placeFrame_drops_none {q : List TxEntry} {e : TxEntry} (hq : q.length < 12) : (placeFrame q e).2 = none := by
  rcases noneWaiting_or_split e q with none | ⟨pre, x, post, rfl, hx, hk, hpre⟩
  · rw [placeFrame_of_room (.inr none) hq]
  · by_cases he : e.body.replaces = true
    · rw [placeFrame_of_waiting he hx hk hpre]
    · rw [placeFrame_of_room (.inl (by simpa using he)) hq]

/-- A frame that takes no other's place waits in the queue once queued, with room there. -/
theorem waits_enqueue {s : State} {b : Block} {x : BitVec 5} {y : Body} (hy : y.replaces = false)
    (hq : s.link.queue.length < 12) : Waits (enqueue b x y s) x y := by
  unfold Waits
  rw [enqueue_queue, placeFrame_of_room (.inl hy) hq]
  exact ⟨_, mem_insertByKey.mpr (.inl rfl), rfl, rfl, rfl⟩

/-- With room in the queue, a frame queued puts no other kind's waiting frame out. -/
theorem Waits.enqueue {s : State} {x x' : BitVec 5} {y y' : Body} (b : Block) (h : Waits s x y)
    (hq : s.link.queue.length < 12) (hk : y'.replaces = false ∨ y.kind.num ≠ y'.kind.num) :
    Waits (enqueue b x' y' s) x y := by
  obtain ⟨e, he, tx, target, body⟩ := h
  unfold Waits
  rw [enqueue_queue]
  rcases noneWaiting_or_split ⟨y', x', b, false, false⟩ s.link.queue with none | ⟨pre, z, post, hz, zt, zk, hpre⟩
  · rw [placeFrame_of_room (.inr none) hq]
    exact ⟨e, mem_insertByKey.mpr (.inr he), tx, target, body⟩
  · rcases Bool.eq_false_or_eq_true y'.replaces with r | r
    · rw [hz, placeFrame_of_waiting r zt zk hpre]
      have other : e ≠ z := by
        rintro rfl
        have := hk.resolve_left (by simp [r])
        exact this (by rw [← body]; exact zk)
      refine ⟨e, ?_, tx, target, body⟩
      rw [hz] at he
      rcases List.mem_append.mp he with m | m
      · exact List.mem_append.mpr (.inl m)
      · exact List.mem_append.mpr (.inr (List.mem_cons_of_mem _ ((List.mem_cons.mp m).resolve_left other)))
    · rw [placeFrame_of_room (.inl r) hq]
      exact ⟨e, mem_insertByKey.mpr (.inr he), tx, target, body⟩

end Sys2Proof.Machine
end

section
open Sys2Proof Sys2Proof.Machine

/-- Settles O7: key order by the cases of placing, and the place itself where the queue is in order, has a waiting
frame of the kind, or is full. -/
theorem framesTakeTheirPlace : Obligations.FramesTakeTheirPlace := by
  refine ⟨fun q e h => keyOrder_placeFrame e h, fun pre x post e he hx hk h => placeFrame_of_waiting he hx hk h,
    fun q e h none hq => ?_, fun pre w post e hq hw none hpre hpost => placeFrame_of_full hq hw none hpre hpost,
    fun b target body s => ⟨enqueue_queue .., enqueue_discard .., ?_, ?_, ?_, enqueue_isolation .., enqueue_board ..⟩⟩
  · rw [placeFrame_of_room none hq, insertByKey_eq h]
  · intro h
    unfold enqueue
    simp only [h, and_self]
  · intro d v h hd
    unfold enqueue
    simp only [h, dropFrame, hd]
  · intro d r st h hd
    unfold enqueue
    simp only [h, dropFrame, hd, and_self]

end

section
/-! The alarm sets (R189 to R197): where each report, acknowledgement and announcement leaves a code and its flag. -/
namespace Sys2Proof.Machine

/-! ### Places and flags -/

namespace AlarmUnit

variable (a : AlarmUnit) (c d : Nat)

@[simp] theorem at_setFlag (v : Bool) : (a.setFlag c v).at d = a.at d := rfl
@[simp] theorem at_strike (p : LineEntry → Bool) : (a.strike p).at d = a.at d := rfl
@[simp] theorem at_listAck (o e : Nat) : (a.listAck o e).at d = a.at d := rfl
@[simp] theorem at_listGone (o e : Nat) (g : Bool) : (a.listGone o e g).at d = a.at d := rfl
@[simp] theorem at_enter (e : LineEntry) : (a.enter e).at d = a.at d := by simp [AlarmUnit.at, place_enter]

@[simp] theorem flag_move (p : Place) : (a.move c p).flag d = a.flag d := rfl
@[simp] theorem flag_strike (p : LineEntry → Bool) : (a.strike p).flag d = a.flag d := rfl
@[simp] theorem flag_listAck (o e : Nat) : (a.listAck o e).flag d = a.flag d := rfl
@[simp] theorem flag_listGone (o e : Nat) (g : Bool) : (a.listGone o e g).flag d = a.flag d := rfl

theorem flags_enter (e : LineEntry) : (a.enter e).flags = a.flags := by
  unfold AlarmUnit.enter
  repeat' split
  all_goals rfl

theorem rot_enter (e : LineEntry) : (a.enter e).rot = a.rot := by
  unfold AlarmUnit.enter
  repeat' split
  all_goals rfl

@[simp] theorem flag_enter (e : LineEntry) : (a.enter e).flag d = a.flag d := by simp [AlarmUnit.flag, flags_enter]

variable {a c d}

theorem flag_setFlag {v : Bool} (h : c < a.flags.length) : (a.setFlag c v).flag c = v := by
  simp [AlarmUnit.flag, AlarmUnit.setFlag, h]

theorem flag_setFlag_ne {v : Bool} (h : d ≠ c) : (a.setFlag c v).flag d = a.flag d := by
  simp [AlarmUnit.flag, AlarmUnit.setFlag, List.getElem?_set_ne (Ne.symm h)]

/-- A flag is clear after it has been set to false, listed or not. -/
theorem flag_setFlag_false : (a.setFlag c false).flag c = false := by
  by_cases h : c < a.flags.length
  · exact flag_setFlag h
  · simp [AlarmUnit.flag, AlarmUnit.setFlag, List.set_eq_of_length_le (Nat.le_of_not_lt h), List.getElem?_eq_none (Nat.le_of_not_lt h)]

/-- A code that does not stand idle is one of those the sets hold. -/
theorem lt_of_at {p : Place} (h : a.at c = p) (hp : p ≠ .idle) : c < a.place.length := by
  refine Classical.byContradiction fun hl => ?_
  exact hp (by rw [← h]; simp [AlarmUnit.at, List.getElem?_eq_none (Nat.le_of_not_lt hl)])

/-- A move to idle leaves the code idle. -/
theorem at_move_idle : (a.move c .idle).at c = .idle := by
  by_cases h : c < a.place.length
  · exact at_move h
  · simp [AlarmUnit.at, AlarmUnit.move, List.set_eq_of_length_le (Nat.le_of_not_lt h), List.getElem?_eq_none (Nat.le_of_not_lt h)]

theorem standing_iff : a.standing c = true ↔ a.at c ≠ .idle := by simp [standing]

@[simp] theorem flags_appear (img : Image) : (a.appear img c).flags = a.flags := by
  unfold AlarmUnit.appear; repeat' split
  all_goals rfl
@[simp] theorem list_appear (img : Image) : (a.appear img c).list = a.list := by
  unfold AlarmUnit.appear; repeat' split
  all_goals rfl
@[simp] theorem rot_appear (img : Image) : (a.appear img c).rot = a.rot := by
  unfold AlarmUnit.appear; repeat' split
  all_goals rfl
@[simp] theorem incomplete_appear (img : Image) : (a.appear img c).incomplete = a.incomplete := by
  unfold AlarmUnit.appear; repeat' split
  all_goals rfl
@[simp] theorem length_place_appear (img : Image) : (a.appear img c).place.length = a.place.length := by
  unfold AlarmUnit.appear; repeat' split
  · rfl
  · simp [AlarmUnit.move]
  · rfl
@[simp] theorem flag_appear (img : Image) : (a.appear img c).flag d = a.flag d := by simp [AlarmUnit.flag]

theorem at_appear_ne (img : Image) (h : d ≠ c) : (a.appear img c).at d = a.at d := by
  unfold AlarmUnit.appear
  split
  · split
    · rfl
    · exact at_move_ne h
  · rfl

/-- An appearance of an idle code that the mask does not hold back asks for it. -/
theorem at_appear {img : Image} (hl : c < a.place.length)
    (hm : img.masked c = false ∨ alarmRecovery c ≠ .condition ∨ a.flag c = false) :
    (a.appear img c).at c = if a.at c = .idle then .request else a.at c := by
  unfold AlarmUnit.appear
  split
  · have held : (img.masked c && alarmRecovery c == .condition && a.flag c) = false := by
      rcases hm with h | h | h
      · simp [h]
      · simp [h]
      · simp [h]
    rw [held]
    exact at_move hl
  · rfl

/-- A code that appears stands in a set, unless the mask and its recovery hold it back. -/
theorem standing_appear {img : Image} (hl : c < a.place.length)
    (hm : img.masked c = false ∨ alarmRecovery c ≠ .condition ∨ a.flag c = false) :
    (a.appear img c).standing c = true := by
  rw [standing_iff, at_appear hl hm]
  split
  · nofun
  · assumption

/-- An appearance takes no code out of the sets. -/
theorem standing_appear_of_standing {img : Image} (h : a.standing d = true) : (a.appear img c).standing d = true := by
  rw [standing_iff] at h ⊢
  by_cases e : d = c
  · subst e
    unfold AlarmUnit.appear
    rw [if_neg h]; exact h
  · rwa [at_appear_ne img e]

end AlarmUnit

/-! ### What the alarm operations write of the alarm unit -/

section
variable (c k : Nat) (i g : Bool) (s : State)

@[simp] theorem appearance_alarm : (appearance c s).alarm = s.alarm.appear s.cfg c := rfl
@[simp] theorem recoveryEnds_alarm : (recoveryEnds c s).alarm = s.alarm.setFlag c false := rfl
@[simp] theorem settleLost_alarm :
    (settleLost k s).alarm = (s.alarm.setFlag (24 + k) false).appear s.cfg (24 + k) := rfl
@[simp] theorem queueRaise_alarm : (queueRaise c i g s).alarm = s.alarm := enqueue_alarm ..
@[simp] theorem announce_alarm : (announce c i g s).alarm = s.alarm.enter ⟨s.me, c, levelOf c, i, g⟩ := by
  simp [announce]
@[simp] theorem remark_alarm : (remark c g s).alarm = (s.alarm.move c (.pending g)).listGone s.me c g := by
  simp [remark]
@[simp] theorem clearCode_alarm : (clearCode c g s).alarm = (s.alarm.move c .idle).strike (LineEntry.is s.me c) := by
  simp [clearCode]
@[simp] theorem overtake_alarm (t : OwnTimer) : (overtake t s).alarm = s.alarm := by
  obtain ⟨e, h⟩ := overtake_eq t s; rw [h]
@[simp] theorem queueStatus_alarm (m : Bool) : (queueStatus m s).alarm = s.alarm := by
  simp [queueStatus]
@[simp] theorem queueStatus_me (m : Bool) : (queueStatus m s).me = s.me := by
  obtain ⟨e, h⟩ := overtake_eq .statusPeriod
    { enqueue .link allTarget (.status (gatherStatus m (computeBlockers s))) (computeBlockers s) with
      link := { (enqueue .link allTarget (.status (gatherStatus m (computeBlockers s))) (computeBlockers s)).link with
        statusAge := some 0 } }
  have t : queueStatus m s = _ := h
  rw [t]; exact enqueue_me ..

@[simp] theorem leaveInService_alarm (h : inLimits 18 c 23 = false) :
    (leaveInService c s).alarm = (s.alarm.move c .idle).strike (LineEntry.is s.me c) := by
  simp [leaveInService, h]

@[simp] theorem joinInService_alarm (h : inLimits 18 c 23 = false) :
    (joinInService c s).alarm = s.alarm.move c .inService := by
  simp [joinInService, h]

end

/-! ### Reports -/

/-- A report names one code; the places and flags of the others stand. -/
structure OtherCodesStand (c : Nat) (a b : AlarmUnit) : Prop where
  place  : ∀ d, d ≠ c → b.at d = a.at d
  flag   : ∀ d, d ≠ c → b.flag d = a.flag d
  places : b.place.length = a.place.length
  flags  : b.flags.length = a.flags.length

theorem OtherCodesStand.refl (c : Nat) (a : AlarmUnit) : OtherCodesStand c a a :=
  ⟨fun _ _ => rfl, fun _ _ => rfl, rfl, rfl⟩

theorem OtherCodesStand.trans {c : Nat} {a b e : AlarmUnit} (h : OtherCodesStand c a b) (k : OtherCodesStand c b e) :
    OtherCodesStand c a e :=
  ⟨fun d hd => (k.place d hd).trans (h.place d hd), fun d hd => (k.flag d hd).trans (h.flag d hd),
    k.places.trans h.places, k.flags.trans h.flags⟩

/-- `trans` with the later step first, for a step that is stated of the state before it. -/
theorem OtherCodesStand.after {c : Nat} {a b e : AlarmUnit} (k : OtherCodesStand c b e) (h : OtherCodesStand c a b) :
    OtherCodesStand c a e := h.trans k

theorem OtherCodesStand.of_same {c : Nat} {a b : AlarmUnit} (hp : b.place = a.place) (hf : b.flags = a.flags) :
    OtherCodesStand c a b :=
  ⟨fun d _ => by simp [AlarmUnit.at, hp], fun d _ => by simp [AlarmUnit.flag, hf], by rw [hp], by rw [hf]⟩

theorem OtherCodesStand.move (a : AlarmUnit) (c : Nat) (p : Place) : OtherCodesStand c a (a.move c p) :=
  ⟨fun _ h => AlarmUnit.at_move_ne h, fun _ _ => rfl, by simp [AlarmUnit.move], rfl⟩

theorem OtherCodesStand.setFlag (a : AlarmUnit) (c : Nat) (v : Bool) : OtherCodesStand c a (a.setFlag c v) :=
  ⟨fun _ _ => rfl, fun _ h => AlarmUnit.flag_setFlag_ne h, rfl, by simp [AlarmUnit.setFlag]⟩

theorem OtherCodesStand.enter (c : Nat) (a : AlarmUnit) (e : LineEntry) : OtherCodesStand c a (a.enter e) :=
  .of_same (place_enter e a) (a.flags_enter e)

theorem others_remark (c : Nat) (g : Bool) (s : State) : OtherCodesStand c s.alarm (remark c g s).alarm := by
  rw [remark_alarm]
  exact (OtherCodesStand.move ..).trans (.of_same rfl rfl)

theorem others_clearCode (c : Nat) (g : Bool) (s : State) : OtherCodesStand c s.alarm (clearCode c g s).alarm := by
  rw [clearCode_alarm]
  exact (OtherCodesStand.move ..).trans (.of_same rfl rfl)

theorem others_leaveInService {c : Nat} (h : inLimits 18 c 23 = false) (s : State) :
    OtherCodesStand c s.alarm (leaveInService c s).alarm := by
  rw [leaveInService_alarm c s h]
  exact (OtherCodesStand.move ..).trans (.of_same rfl rfl)

theorem others_conditionStarts (c : Nat) (s : State) : OtherCodesStand c s.alarm (conditionStarts c s).alarm := by
  have flagged := OtherCodesStand.setFlag s.alarm c true
  unfold conditionStarts
  simp only []
  split
  · exact flagged.trans (.move ..)
  · exact (others_remark ..).after flagged
  all_goals exact flagged

theorem others_conditionEnds {c : Nat} (h : inLimits 18 c 23 = false) (s : State) :
    OtherCodesStand c s.alarm (conditionEnds c s).alarm := by
  have flagged := OtherCodesStand.setFlag s.alarm c false
  unfold conditionEnds
  simp only []
  split
  · exact flagged.trans (.move ..)
  · exact (others_remark ..).after flagged
  · exact (others_leaveInService h _).after flagged
  all_goals exact flagged

theorem others_reportLive {c : Nat} (h : inLimits 18 c 23 = false) (v : Bool) (s : State) :
    OtherCodesStand c s.alarm (reportLive c v s).alarm := by
  unfold reportLive
  split
  · exact .refl ..
  · split
    · exact others_conditionStarts ..
    · exact others_conditionEnds h ..

theorem others_reportRecovery {c : Nat} (h : inLimits 18 c 23 = false) (v : Bool) (s : State) :
    OtherCodesStand c s.alarm (reportRecovery c v s).alarm := by
  have flagged := OtherCodesStand.setFlag s.alarm c true
  unfold reportRecovery
  split
  · exact .refl ..
  · split
    · exact .setFlag ..
    · simp only []
      split
      · split
        · exact flagged.trans (.move ..)
        · exact flagged
      · exact (others_leaveInService h _).after flagged
      all_goals exact flagged

theorem inLimits_eq_false_iff {lo n hi : Nat} : inLimits lo n hi = false ↔ n < lo ∨ hi < n := by
  simp only [inLimits, Bool.and_eq_false_iff, decide_eq_false_iff_not]; omega

theorem inLimits_eq_true_iff {lo n hi : Nat} : inLimits lo n hi = true ↔ lo ≤ n ∧ n ≤ hi := by
  simp [inLimits]

theorem others_reportCode (c : Nat) (s : State) : OtherCodesStand c s.alarm (reportCode c s).alarm := by
  unfold reportCode
  split
  · exact others_reportLive (not_overtemp_of_live ‹_›) ..
  · split
    · rename_i h
      exact others_reportRecovery (inLimits_eq_false_iff.mpr (by omega)) ..
    · exact .refl ..

/-- After a report the flag is what was reported. -/
theorem flag_reportLive {c : Nat} {s : State} (h : inLimits 18 c 23 = false) (hl : c < s.alarm.flags.length) (v : Bool) :
    (reportLive c v s).alarm.flag c = v := by
  unfold reportLive
  split
  · exact Eq.symm ‹_›
  · split
    · subst v
      unfold conditionStarts
      simp only []
      split <;> simp [AlarmUnit.flag_setFlag hl]
    · have e : v = false := by simpa using ‹¬v = true›
      subst e
      unfold conditionEnds
      simp only []
      split <;> simp [AlarmUnit.flag_setFlag hl, h]

theorem flag_reportRecovery {c : Nat} {s : State} (h : inLimits 18 c 23 = false) (hl : c < s.alarm.flags.length)
    (v : Bool) : (reportRecovery c v s).alarm.flag c = v := by
  unfold reportRecovery
  split
  · exact Eq.symm ‹_›
  · split
    · have e : v = false := by simpa using ‹(!v) = true›
      subst e
      exact AlarmUnit.flag_setFlag hl
    · have e : v = true := by simpa using ‹¬(!v) = true›
      subst e
      simp only []
      split
      · split <;> simp [AlarmUnit.flag_setFlag hl]
      all_goals simp [AlarmUnit.flag_setFlag hl, h]

/-! ### Announcements -/

/-- A code picked leaves the request set, and no other code moves. -/
theorem others_announcePick (c : Nat) (s : State) : OtherCodesStand c s.alarm (announcePick c s).alarm := by
  unfold announcePick
  simp only []
  split
  · rename_i lv
    have ot := not_overtemp_of_level0 lv
    have joined : OtherCodesStand c s.alarm
        (announce c true false (joinInService c { s with
          alarm := { s.alarm with rot := s.alarm.rot.set (levelOf c) ((c + 1) % 64) } })).alarm := by
      rw [announce_alarm, joinInService_alarm _ _ ot]
      exact (OtherCodesStand.enter c _ _).after ((OtherCodesStand.move _ c _).after (.of_same rfl rfl))
    unfold settleInService
    split
    · exact joined
    · split
      · exact (others_leaveInService ot _).after joined
      · split
        · exact (others_leaveInService ot _).after joined
        · exact joined
      · exact joined
  · rw [queueStatus_alarm, announce_alarm]
    exact (OtherCodesStand.enter c _ _).after ((OtherCodesStand.move _ c _).after (.of_same rfl rfl))

theorem flags_announcePick (c : Nat) (s : State) : (announcePick c s).alarm.flags = s.alarm.flags := by
  unfold announcePick
  simp only []
  split
  · rename_i lv
    have ot := not_overtemp_of_level0 lv
    unfold settleInService
    repeat' split
    all_goals simp [ot, AlarmUnit.flags_enter, AlarmUnit.strike, AlarmUnit.move]
  · simp [AlarmUnit.flags_enter, AlarmUnit.move]

theorem flags_announceAll (n : Nat) (s : State) : (announceAll n s).alarm.flags = s.alarm.flags := by
  induction n generalizing s with
  | zero => rfl
  | succ n ih =>
    unfold announceAll
    split
    · rfl
    · rw [ih, flags_announcePick]

end Sys2Proof.Machine
end

section
/-! STATUS as it is queued (R15, R55): what the frame in the queue carries, and when each blocker holds. -/
namespace Sys2Proof.Machine

/-! ### The frame -/

/-- The start mark that a STATUS body carries. -/
def startMarked : Body → Bool
  | .status g => g.startMark
  | _ => false

theorem replacing_status (o : Body) (f : StatusFields) :
    o.replacing (.status f) = .status { f with startMark := f.startMark || startMarked o } := by
  cases o <;> simp [Body.replacing, startMarked]

theorem eq_status_of_kind {b : Body} (h : b.kind = .status) : ∃ g, b = .status g := by
  cases b <;> simp [Body.kind] at h
  exact ⟨_, rfl⟩

/-- A kind is read from its number. -/
theorem ofNum_num (k : Kind) : Kind.ofNum k.num = some k := by cases k <;> rfl

theorem num_injective : Function.Injective Kind.num := fun j k h =>
  Option.some.inj ((ofNum_num j).symm.trans ((congrArg Kind.ofNum h).trans (ofNum_num k)))

theorem eq_status_of_num {b : Body} (h : b.kind.num = Kind.status.num) : ∃ g, b = .status g :=
  eq_status_of_kind (num_injective h)

/-- The first element that meets a test, told from the list's parts. -/
theorem find?_append_cons {α : Type} {p : α → Bool} {pre post : List α} {x : α} (hx : p x = true)
    (h : ∀ y ∈ pre, p y = false) : (pre ++ x :: post).find? p = some x := by
  rw [List.find?_append, List.find?_eq_none.mpr (by simpa using h)]
  simp [hx]

/-- With room in the queue a STATUS queued waits there, its start mark set where it takes the place of one that had
it set (R15). -/
theorem enqueue_status {s : State} (b : Block) (x : BitVec 5) (f : StatusFields) (hq : s.link.queue.length < 12) :
    ∃ e ∈ (enqueue b x (.status f) s).link.queue, e.inTx = false ∧ e.target = x ∧ ∃ mark,
      e.body = .status { f with startMark := f.startMark || mark } ∧
      (∀ pre z post g, s.link.queue = pre ++ z :: post → z.inTx = false → z.body = .status g →
        (∀ y ∈ pre, y.inTx = true ∨ y.key ≠ z.key) → g.startMark = true → mark = true) ∧
      ((∀ z ∈ s.link.queue, ∀ g, z.body = .status g → g.startMark = false) → mark = false) := by
  rw [enqueue_queue]
  rcases noneWaiting_or_split ⟨.status f, x, b, false, false⟩ s.link.queue with none | ⟨pre, z, post, hz, zt, zk, hpre⟩
  · rw [placeFrame_of_room (.inr none) hq]
    refine ⟨_, mem_insertByKey.mpr (.inl rfl), rfl, rfl, false, by simp, fun pre z post g e zt zb _ _ => ?_, fun _ => rfl⟩
    rcases none z (by simp [e]) with h | h
    · exact absurd h (by simp [zt])
    · exact absurd (congrArg (fun y : Body => y.kind.num) zb) h
  · rw [hz, placeFrame_of_waiting rfl zt zk hpre]
    refine ⟨_, by simp; exact .inr (.inl rfl), rfl, rfl, startMarked z.body, replacing_status .., ?_, fun h => ?_⟩
    · intro pre' z' post' g e zt' zb' hpre' hg
      let p : TxEntry → Bool := fun y => !y.inTx && y.key == Kind.status.num
      have k' : z'.key = Kind.status.num := congrArg (fun y : Body => y.kind.num) zb'
      have first : (pre ++ z :: post).find? p = some z := find?_append_cons (by simp [p, zt]; exact zk) fun y hy => by
        rcases hpre y hy with h | h
        · simp [p, h]
        · simp [p]; intro _; exact h
      have first' : (pre ++ z :: post).find? p = some z' := e ▸ find?_append_cons (by simp [p, zt', k']) fun y hy => by
        rcases hpre' y hy with h | h
        · simp [p, h]
        · simp [p]; intro _; exact k' ▸ h
      rw [first] at first'
      cases first'
      simp [zb', startMarked, hg]
    · obtain ⟨g, hg⟩ := eq_status_of_num (b := z.body) zk
      rw [hg]
      exact h z (by simp) g hg

@[simp] theorem overtake_link (t : OwnTimer) (s : State) : (overtake t s).link = s.link := by
  obtain ⟨e, h⟩ := overtake_eq t s; rw [h]
@[simp] theorem overtake_pot (t : OwnTimer) (s : State) : (overtake t s).pot = s.pot := by
  obtain ⟨e, h⟩ := overtake_eq t s; rw [h]
@[simp] theorem overtake_board (t : OwnTimer) (s : State) : (overtake t s).board = s.board := by
  obtain ⟨e, h⟩ := overtake_eq t s; rw [h]

theorem queueStatus_link (m : Bool) (s : State) : (queueStatus m s).link =
    { (enqueue .link allTarget (.status (gatherStatus m (computeBlockers s))) (computeBlockers s)).link with
      statusAge := some 0 } := by
  simp [queueStatus]

/-- What a STATUS of JOINING and RUNNING carries, with room in the queue. -/
theorem queueStatus_waits {s : State} (m : Bool) (hq : s.link.queue.length < 12) :
    ∃ e ∈ (queueStatus m s).link.queue, e.inTx = false ∧ e.target = allTarget ∧ ∃ mark,
      e.body = .status { statusNow (computeBlockers s) with startMark := m || mark } ∧
      (∀ pre z post g, s.link.queue = pre ++ z :: post → z.inTx = false → z.body = .status g →
        (∀ y ∈ pre, y.inTx = true ∨ y.key ≠ z.key) → g.startMark = true → mark = true) ∧
      ((∀ z ∈ s.link.queue, ∀ g, z.body = .status g → g.startMark = false) → mark = false) := by
  rw [queueStatus_link]
  exact enqueue_status (s := computeBlockers s) .link allTarget (gatherStatus m (computeBlockers s)) hq

/-! ### The blockers (R55) -/

theorem mem_usedChannels {img : Image} {k : Nat} : k ∈ img.usedChannels ↔ k < 6 ∧ (img.channel k).fn ≠ .unused := by
  simp [Image.usedChannels]

theorem blockerHeat_iff (s : State) : blockerHeat s = true ↔ ∃ k c, k < 6 ∧ (s.cfg.channel k).fn ≠ .unused ∧
    channel s k = some c ∧ (c.mode = .faulted ∨ c.mode = .tripped ∨ c.mode = .blind ∨
      ∃ h, s.board.head = some h ∧ c.governing = some h.tag ∧ c.det.phase ≠ .settled) := by
  simp only [blockerHeat, List.any_eq_true, mem_usedChannels]
  constructor
  · rintro ⟨k, ⟨hk, used⟩, h⟩
    split at h
    · cases h
    · rename_i c hc
      refine ⟨k, c, hk, used, hc, ?_⟩
      cases hb : s.board.head <;> simpa [hb, or_assoc] using h
  · rintro ⟨k, c, hk, used, hc, h⟩
    refine ⟨k, ⟨hk, used⟩, ?_⟩
    rw [hc]
    cases hb : s.board.head <;> simpa [hb, or_assoc] using h

theorem blockerRecipe_iff (s : State) : blockerRecipe s = true ↔
    ∃ h, s.board.head = some h ∧ s.recipe.status h.ref ≠ .resolved := by
  unfold blockerRecipe
  cases s.board.head <;> simp

/-- No blocker is set exactly where the set is empty. -/
theorem admitFlag_iff (s : State) : (s.running && blockersNow s == Blockers.empty) = true ↔
    s.loader.station = .running ∧ blockersNow s = Blockers.empty := by
  simp [State.running]

end Sys2Proof.Machine
end

section
open Sys2Proof Sys2Proof.Machine

/-- Settles O6: what waits in the queue once a STATUS is queued, and the blockers one by one. -/
theorem statusFramesQueued : Obligations.StatusFramesQueued := by
  refine ⟨fun s hs hq => ?_, fun m s hq => ?_, fun s => ?_⟩
  · obtain ⟨e, he, tx, target, mark, body, _, clear⟩ := enqueue_status .link allTarget (configFaultFields s) hq
    refine ⟨queueConfigStatus s, e, _, if_pos hs, rfl, he, tx, target, body, rfl, rfl, rfl, rfl, rfl, rfl, rfl, rfl,
      rfl, rfl, rfl, rfl, rfl, rfl, rfl, rfl, rfl, fun h => ?_⟩
    simp [configFaultFields, clear h]
  · obtain ⟨e, he, tx, target, mark, body, carried, clear⟩ := queueStatus_waits m hq
    refine ⟨by rw [queueStatus_link], e, _, he, tx, target, body, rfl, rfl, rfl, admitFlag_iff s, rfl, ?_, rfl, rfl,
      rfl, rfl, rfl, rfl, rfl, rfl, rfl, rfl, rfl, fun h => by simp [h], fun pre x post g h xt xb first hg => ?_,
      fun h none => by simp [h, clear none]⟩
    · show (!runPermit s) = true ↔ _
      simp
    · simp [carried pre x post g h xt xb first hg]
  · refine ⟨by simp [blockersNow], blockerHeat_iff s, blockerRecipe_iff s, by simp [blockersNow, Option.isSome_iff_ne_none],
      by simp [blockersNow], by simp [blockersNow, aFluxSupply, aFluxTankEmpty], ?_⟩
    simp only [blockersNow, List.any_eq_true, List.mem_range, Bool.and_eq_true, beq_iff_eq]

end

section
/-! Announcements and the end of a command (R189 to R197): which code a judgement picks, where it leaves the sets, and
what three passes of reports and announcements come to. -/
namespace Sys2Proof.Machine

/-! ### Levels -/

theorem levelOf_eq_zero_iff {c : Nat} : levelOf c = 0 ↔ c = 56 ∨ 58 ≤ c := by
  by_cases h : c < 58
  · have small : ∀ d, d < 58 → (levelOf d = 0 ↔ d = 56) := by decide
    rw [small c h]; omega
  · have none : alarmLevel c = Option.none := by
      unfold alarmLevel
      rw [if_neg (by omega), if_neg (by omega), if_neg (by omega), if_neg (by omega), if_neg (by omega)]
      exact List.getElem?_eq_none (by simp; omega)
    simp [levelOf, none]; omega

theorem alarmLive_iff (c : Nat) : alarmLive c = true ↔ (6 ≤ c ∧ c ≤ 11) ∨
    c ∈ [30, 34, 35, 37, 40, 41, 43, 44, 45, 46, 48, 49, 50, 51, 53, 54, 55] := by
  simp [alarmLive, inLimits]

theorem alarmRecovery_condition_iff (c : Nat) :
    alarmRecovery c = .condition ↔ c ≤ 5 ∨ (18 ≤ c ∧ c ≤ 29) ∨ c = 36 ∨ c = 39 ∨ c = 52 := by
  unfold alarmRecovery
  split
  · rename_i h
    have := inLimits_eq_true_iff.mp h
    simp; omega
  · split
    · rename_i h
      simp only [Bool.or_eq_true, decide_eq_true_eq, inLimits_eq_true_iff, beq_iff_eq] at h
      simp; omega
    · rename_i h
      simp only [Bool.or_eq_true, decide_eq_true_eq, inLimits_eq_true_iff, beq_iff_eq] at h
      simp; omega

/-- A code of level 0 is LATCHED and leaves service at once. -/
theorem settles_of_level0 {c : Nat} (h : levelOf c = 0) : alarmLive c = false ∧ alarmRecovery c = .atOnce := by
  rcases levelOf_eq_zero_iff.mp h with rfl | hc
  · decide
  · constructor
    · rw [Bool.eq_false_iff]
      intro live
      simp [alarmLive_iff] at live; omega
    · unfold alarmRecovery
      rw [if_neg, if_neg]
      · simp only [Bool.or_eq_true, decide_eq_true_eq, inLimits_eq_true_iff, beq_iff_eq]; omega
      · simp [inLimits]; omega

/-! ### The pick -/

theorem mem_of_foldl_max {l : List Nat} {m : Option Nat} {v : Nat}
    (h : l.foldl (fun m n => some (match m with | none => n | some k => max k n)) m = some v) : m = some v ∨ v ∈ l := by
  induction l generalizing m with
  | nil => exact .inl h
  | cons x xs ih =>
    rcases ih h with start | mem
    · cases m with
      | none => cases start; exact .inr (List.mem_cons_self ..)
      | some k =>
        simp only [Option.some.injEq] at start
        rcases Nat.le_total k x with le | le
        · rw [Nat.max_eq_right le] at start; exact .inr (start ▸ List.mem_cons_self ..)
        · rw [Nat.max_eq_left le] at start; exact .inl (congrArg some start)
    · exact .inr (List.mem_cons_of_mem _ mem)

theorem mem_candidates {img : Image} {a : AlarmUnit} {c : Nat} :
    c ∈ candidates img a ↔ c < 64 ∧ a.at c = .request ∧ img.masked c = false := by
  simp [candidates]

/-- The steps from the pointer upward to a code. -/
def stepsFrom (p c : Nat) : Nat := (c + 64 - p % 64) % 64

theorem stepsFrom_lt (p c : Nat) : stepsFrom p c < 64 := Nat.mod_lt _ (by decide)

theorem add_stepsFrom {p c : Nat} (hc : c < 64) : (p + stepsFrom p c) % 64 = c := by
  unfold stepsFrom; omega

/-- A judgement's pick stands at the fewest steps from the pointer, among the candidates of its level. -/
theorem stepsFrom_le_of_pickAt {a : AlarmUnit} {cs : List Nat} {l c d : Nat} (h : pickAt a cs l = some c)
    (hd : d ∈ cs) (hl : levelOf d = l) (h64 : d < 64) : stepsFrom (a.rot.getD l 0) c ≤ stepsFrom (a.rot.getD l 0) d := by
  unfold pickAt at h
  rw [List.find?_map] at h
  obtain ⟨i, hi, rfl⟩ := Option.map_eq_some_iff.mp h
  obtain ⟨-, hr, least⟩ := List.find?_range_eq_some.mp hi
  have hr : i < 64 := List.mem_range.mp hr
  have steps : stepsFrom (a.rot.getD l 0) ((a.rot.getD l 0 + i) % 64) = i := by unfold stepsFrom; omega
  rw [steps]
  refine Classical.byContradiction fun lt => ?_
  have := least _ (Nat.lt_of_not_le lt)
  simp at this
  rw [← List.getD_eq_getElem?_getD, add_stepsFrom h64] at this
  exact this.elim (fun h => h hd) fun h => h hl

theorem pickAt_ne_none {a : AlarmUnit} {cs : List Nat} {d : Nat} (hd : d ∈ cs) (h64 : d < 64) :
    pickAt a cs (levelOf d) ≠ none := by
  intro h
  have := List.find?_eq_none.mp h d (List.mem_map.mpr ⟨stepsFrom (a.rot.getD (levelOf d) 0) d,
    List.mem_range.mpr (stepsFrom_lt ..), add_stepsFrom h64⟩)
  exact this (by simp [hd])

theorem highestLevel_of_mem {cs : List Nat} {d : Nat} (hd : d ∈ cs) :
    ∃ l, highestLevel cs = some l ∧ levelOf d ≤ l ∧ ∃ e ∈ cs, levelOf e = l := by
  have mem : levelOf d ∈ cs.map levelOf := List.mem_map_of_mem hd
  cases h : highestLevel cs with
  | none => rw [(foldl_max_eq_none h).2] at mem; exact nomatch mem
  | some l =>
    refine ⟨l, rfl, (le_foldl_max h).2 _ mem, ?_⟩
    rcases mem_of_foldl_max h with start | mem
    · cases start
    · obtain ⟨e, he, el⟩ := List.mem_map.mp mem
      exact ⟨e, he, el⟩

/-- Where a judgement picks nothing, a pending code's level is at or above every candidate's. -/
theorem pending_of_pickRequest_none {img : Image} {a : AlarmUnit} {d : Nat} (h : pickRequest img a = none)
    (hd : d ∈ candidates img a) : ∃ x g, x < 64 ∧ a.at x = .pending g ∧ levelOf d ≤ levelOf x := by
  obtain ⟨l, hl, le, e, he, rfl⟩ := highestLevel_of_mem hd
  have some_pick := pickAt_ne_none (a := a) he (mem_candidates.mp he).1
  unfold pickRequest at h
  simp only [hl] at h
  split at h
  · rename_i p hp
    have above : ¬p < levelOf e := fun lt => by rw [if_pos lt] at h; exact some_pick h
    rcases mem_of_foldl_max hp with start | mem
    · cases start
    · obtain ⟨x, hx, xl⟩ := List.mem_map.mp mem
      obtain ⟨hx, g, hg⟩ := AlarmUnit.mem_pendingCodes.mp hx
      exact ⟨x, g, hx, hg, by omega⟩
  · exact absurd h some_pick

/-! ### The announcement of a pick -/

/-- The alarm unit with the pointer of the code's level moved past it. -/
def AlarmUnit.pointPast (c : Nat) (a : AlarmUnit) : AlarmUnit :=
  { a with rot := a.rot.set (levelOf c) ((c + 1) % 64) }

theorem announcePick_of_level {c : Nat} (h : levelOf c ≠ 0) (s : State) : announcePick c s = queueStatus false
    (announce c false false { s with alarm := (s.alarm.pointPast c).move c (.pending false) }) := if_neg h

theorem announcePick_of_level0 {c : Nat} (h : levelOf c = 0) (s : State) : announcePick c s =
    clearCode c false (announce c true false { s with alarm := (s.alarm.pointPast c).move c .inService }) := by
  obtain ⟨latched, atOnce⟩ := settles_of_level0 h
  have ot := not_overtemp_of_level0 h
  unfold announcePick
  simp only [h, if_pos, settleInService, latched, atOnce, joinInService, leaveInService, ot, Bool.false_eq_true, if_false,
    AlarmUnit.pointPast]

theorem list_enter_congr {a b : AlarmUnit} (hl : a.list = b.list) (e : LineEntry) :
    (a.enter e).list = (b.enter e).list := by
  unfold AlarmUnit.enter
  rw [hl]
  repeat' split
  all_goals rfl

/-- A code picked is no request any more. -/
theorem at_announcePick_ne_request {c : Nat} {s : State} (h : s.alarm.at c = .request) :
    (announcePick c s).alarm.at c ≠ .request := by
  have hl := AlarmUnit.lt_of_at h nofun
  by_cases lv : levelOf c = 0
  · rw [announcePick_of_level0 lv]; simp [AlarmUnit.at_move_idle]
  · rw [announcePick_of_level lv]
    have : (((s.alarm.pointPast c).move c (.pending false)).at c) = .pending false := AlarmUnit.at_move hl
    simp [this]

/-- Every announcement leaves one candidate fewer. -/
theorem length_candidates_announcePick {s : State} {c : Nat} (h : pickRequest s.cfg s.alarm = some c) :
    (candidates (announcePick c s).cfg (announcePick c s).alarm).length < (candidates s.cfg s.alarm).length := by
  have mem := (pickRequest_spec h).1
  obtain ⟨hc, req, -⟩ := mem_candidates.mp mem
  have cfg : (announcePick c s).cfg = s.cfg := by
    show (offAlarm (announcePick c s)).cfg = (offAlarm s).cfg
    rw [offAlarm_announcePick]
  have same : candidates (announcePick c s).cfg (announcePick c s).alarm
      = (candidates s.cfg s.alarm).filter (fun d => d != c) := by
    unfold candidates
    rw [List.filter_filter]
    refine List.filter_congr fun d _ => ?_
    by_cases e : d = c
    · subst e; simp [at_announcePick_ne_request req]
    · simp [(others_announcePick c s).place d e, e, cfg]
  rw [same]
  exact length_filter_lt mem (by simp)

/-- Judged as often as there are candidates, announcement comes to an end. -/
theorem pickRequest_announceAll {n : Nat} {s : State} (h : (candidates s.cfg s.alarm).length ≤ n) :
    pickRequest (announceAll n s).cfg (announceAll n s).alarm = none := by
  induction n generalizing s with
  | zero =>
    have none : candidates s.cfg s.alarm = [] := List.eq_nil_of_length_eq_zero (Nat.le_zero.mp h)
    simp [announceAll, pickRequest, none, highestLevel]
  | succ n ih =>
    unfold announceAll
    split
    · assumption
    · have := length_candidates_announcePick ‹_›
      exact ih (by omega)

theorem length_candidates_le (img : Image) (a : AlarmUnit) : (candidates img a).length ≤ 64 := by
  unfold candidates
  simpa using List.length_filter_le (fun c => a.at c == .request && !img.masked c) (List.range 64)

/-! ### The reports of a pass -/

/-- The report of a code as it is due: a LIVE condition, or a recovery condition other than OVERTEMP's. -/
def dueFlag (s : State) (c : Nat) : Option Bool :=
  if alarmLive c then some (liveHolds s c)
  else if alarmRecovery c = .condition ∧ ¬(18 ≤ c ∧ c ≤ 23) then some (recoveryHolds s c)
  else none

/-- Every flag that is reported agrees with its condition. -/
def FlagsAgree (s : State) : Prop := ∀ c v, dueFlag s c = some v → s.alarm.flag c = v

/-- The own number's entry is fresh whatever it says; the others stand apart from the alarm side. -/
theorem peerFresh_offAlarm (s : State) (n : Nat) : peerFresh (offAlarm s) n = peerFresh s n := by
  unfold peerFresh peer
  by_cases h : n = s.me
  · have h' : n = (offAlarm s).me := h
    rw [if_pos h, if_pos h']
  · have h' : n ≠ (offAlarm s).me := h
    rw [if_neg h, if_neg h']
    rfl

theorem peerStale_offAlarm (s : State) : peerStale (offAlarm s) = peerStale s := by
  simp only [peerStale, peerFresh_offAlarm]
  rfl

theorem liveHolds_offAlarm (s : State) (c : Nat) : liveHolds (offAlarm s) c = liveHolds s c := by
  simp only [liveHolds, peerStale_offAlarm]
  rfl

/-- What `offAlarm` keeps settles the conditions. -/
theorem dueFlag_of_offAlarm {s t : State} (h : offAlarm t = offAlarm s) (c : Nat) : dueFlag t c = dueFlag s c := by
  have e : ∀ x : State, dueFlag x c = dueFlag (offAlarm x) c := fun x => by
    simp only [dueFlag, liveHolds_offAlarm]; rfl
  rw [e t, e s, h]

theorem lt_of_dueFlag {s : State} {c : Nat} {v : Bool} (h : dueFlag s c = some v) : c < 58 := by
  unfold dueFlag at h
  split at h
  · rename_i live
    simp [alarmLive_iff] at live; omega
  · split at h
    · rename_i cond
      rcases (alarmRecovery_condition_iff c).mp cond.1 with h | h | h | h | h <;> omega
    · cases h

theorem flag_reportCode {s : State} {c : Nat} {v : Bool} (h : dueFlag s c = some v) (hl : c < s.alarm.flags.length) :
    (reportCode c s).alarm.flag c = v := by
  unfold dueFlag at h
  unfold reportCode
  split at h
  · rename_i live
    cases h
    rw [if_pos live]
    exact flag_reportLive (not_overtemp_of_live live) hl _
  · rename_i latched
    rw [if_neg latched]
    split at h
    · rename_i cond
      cases h
      rw [if_pos cond]
      exact flag_reportRecovery (inLimits_eq_false_iff.mpr (by omega)) hl _
    · cases h

/-- A report that changes nothing. -/
theorem reportCode_of_agree {s : State} {c : Nat} (h : ∀ v, dueFlag s c = some v → s.alarm.flag c = v) :
    reportCode c s = s := by
  unfold reportCode
  split
  · rename_i live
    exact if_pos (h _ (by simp [dueFlag, live])).symm
  · rename_i latched
    split
    · rename_i cond
      exact if_pos (h _ (by rw [dueFlag, if_neg latched, if_pos cond])).symm
    · rfl

theorem length_flags_reportCodes (l : List Nat) (s : State) :
    (reportCodes l s).alarm.flags.length = s.alarm.flags.length := by
  induction l generalizing s with
  | nil => rfl
  | cons c cs ih => rw [reportCodes, ih, (others_reportCode c s).flags]

/-- After the reports of a list of codes, each flag of the list agrees with its condition. -/
theorem flag_reportCodes {l : List Nat} {s : State} {c : Nat} {v : Bool} (hc : c ∈ l ∨ s.alarm.flag c = v)
    (h : dueFlag s c = some v) (hl : c < s.alarm.flags.length) : (reportCodes l s).alarm.flag c = v := by
  induction l generalizing s with
  | nil => exact hc.resolve_left List.not_mem_nil
  | cons d ds ih =>
    have due : dueFlag (reportCode d s) c = some v := (dueFlag_of_offAlarm (offAlarm_reportCode d s) c).trans h
    refine ih ?_ due (by rw [(others_reportCode d s).flags]; exact hl)
    by_cases e : c = d
    · subst e; exact .inr (flag_reportCode h hl)
    · rcases hc with hc | hc
      · exact .inl ((List.mem_cons.mp hc).resolve_left e)
      · exact .inr ((others_reportCode d s).flag c e ▸ hc)

theorem flagsAgree_syncAlarms {s : State} (h : s.alarm.flags.length = 64) : FlagsAgree (syncAlarms s) := by
  intro c v hv
  have due := (dueFlag_of_offAlarm (offAlarm_syncAlarms s) c).symm.trans hv
  have small := lt_of_dueFlag due
  exact flag_reportCodes (.inl (List.mem_range.mpr small)) due (by omega)

theorem flagsAgree_announceAll {s : State} (n : Nat) (h : FlagsAgree s) : FlagsAgree (announceAll n s) := by
  intro c v hv
  have due := (dueFlag_of_offAlarm (offAlarm_announceAll n s) c).symm.trans hv
  have same : (announceAll n s).alarm.flag c = s.alarm.flag c := by simp [AlarmUnit.flag, flags_announceAll]
  rw [same]; exact h c v due

/-! ### The removal of a record leaves the alarm side alone -/

theorem closeSeries_eq (s : State) : ∃ es r n, closeSeries s =
    { s with pos := { s.pos with schedule := es }, flux := { s.flux with series := r, nozzle := n } } := by
  unfold closeSeries
  split
  · exact ⟨_, _, _, rfl⟩
  · split <;> exact ⟨_, _, _, rfl⟩

theorem fluxRemoval_eq (t : Tag) (s : State) : ∃ es r n, fluxRemoval t s =
    { s with pos := { s.pos with schedule := es }, flux := { s.flux with
      series := r, nozzle := n, handled := s.flux.handled.filter fun x => x != t } } := by
  obtain ⟨es, r, n, h⟩ := closeSeries_eq s
  unfold fluxRemoval
  split
  · split
    · rw [h]; exact ⟨_, _, _, rfl⟩
    · exact ⟨_, _, _, rfl⟩
  · exact ⟨_, _, _, rfl⟩

theorem touchPumps_eq (s : State) : touchPumps s =
    { s with pot := { s.pot with quiet := if pumpsAboveIdle s then 0 else s.pot.quiet } } := by
  unfold touchPumps
  split <;> rfl

theorem formRequired_eq (s : State) : ∃ f e, formRequired s = { s with fume := f, expiries := e } := by
  unfold formRequired riseRestarted
  split
  · split
    · obtain ⟨e, h⟩ := overtake_eq .riseDelay { s with fume := s.fume.retarget s.cfg.fume.riseDelay (requiredNow s) }
      exact ⟨_, e, h⟩
    · exact ⟨_, _, rfl⟩
  · exact ⟨_, _, rfl⟩

/-- What the removal of a record writes. -/
theorem removeRecord_eq {t : Tag} {s : State} {r : BoardRecord} (h : findRecord t s.board.queue = some r) :
    ∃ es ser n q f e, removeRecord t s = { s with
      board := { s.board with
        queue := s.board.queue.filter fun x => x.tag != t
        handoff := if s.board.handoff.bound = some t then Handoff.clear else s.board.handoff }
      pos := { s.pos with schedule := es }
      heat := { s.heat with notes := s.heat.notes.filter fun n => n.tag != t }
      recipe := s.recipe.release r.ref
      flux := { s.flux with series := ser, nozzle := n, handled := s.flux.handled.filter fun x => x != t }
      pot := { s.pot with raised := s.pot.raised.filter (fun x => x.tag != t), quiet := q }
      fume := f
      expiries := e } := by
  unfold removeRecord
  rw [h]
  simp only []
  obtain ⟨es, ser, n, hf⟩ := fluxRemoval_eq t (releaseRef r.ref { s with
      board := { s.board with
        queue := s.board.queue.filter fun x => x.tag != t
        handoff := if s.board.handoff.bound = some t then Handoff.clear else s.board.handoff }
      pos := { s.pos with schedule := withoutTag t s.pos.schedule }
      heat := { s.heat with notes := s.heat.notes.filter fun n => n.tag != t } })
  rw [hf, potRemoval, touchPumps_eq]
  obtain ⟨f, e, hr⟩ := formRequired_eq _
  rw [hr]
  exact ⟨_, _, _, _, _, _, rfl⟩

theorem removeRecord_of_none {t : Tag} {s : State} (h : findRecord t s.board.queue = none) : removeRecord t s = s := by
  unfold removeRecord; rw [h]

section
variable (t : Tag) (s : State)

@[simp] theorem removeRecord_alarm : (removeRecord t s).alarm = s.alarm := by
  cases h : findRecord t s.board.queue with
  | none => rw [removeRecord_of_none h]
  | some r => obtain ⟨_, _, _, _, _, _, e⟩ := removeRecord_eq h; rw [e]
@[simp] theorem removeRecord_link : (removeRecord t s).link = s.link := by
  cases h : findRecord t s.board.queue with
  | none => rw [removeRecord_of_none h]
  | some r => obtain ⟨_, _, _, _, _, _, e⟩ := removeRecord_eq h; rw [e]
@[simp] theorem removeRecord_loader : (removeRecord t s).loader = s.loader := by
  cases h : findRecord t s.board.queue with
  | none => rw [removeRecord_of_none h]
  | some r => obtain ⟨_, _, _, _, _, _, e⟩ := removeRecord_eq h; rw [e]
@[simp] theorem removeRecord_cfg : (removeRecord t s).cfg = s.cfg := by simp [State.cfg]
@[simp] theorem removeRecord_me : (removeRecord t s).me = s.me := by simp [State.me]
@[simp] theorem removeRecord_gate : (removeRecord t s).board.gate = s.board.gate := by
  cases h : findRecord t s.board.queue with
  | none => rw [removeRecord_of_none h]
  | some r => obtain ⟨_, _, _, _, _, _, e⟩ := removeRecord_eq h; rw [e]

theorem removeRecord_queue : (removeRecord t s).board.queue = s.board.queue.filter fun x => x.tag != t := by
  cases h : findRecord t s.board.queue with
  | none =>
    rw [removeRecord_of_none h, List.filter_eq_self.mpr]
    intro x hx
    have := List.find?_eq_none.mp h x hx
    simpa using this
  | some r => obtain ⟨_, _, _, _, _, _, e⟩ := removeRecord_eq h; rw [e]

@[simp] theorem removeWithExit_alarm (c : ExitCause) : (removeWithExit t c s).alarm = s.alarm := by
  unfold removeWithExit
  split <;> simp

end

theorem answerOffer_none_alarm (t : Tag) (s : State) : (answerOffer t .none s).alarm = s.alarm := by
  unfold answerOffer
  split
  · rfl
  · simp only []
    split <;> simp

@[simp] theorem deliverDropped_alarm (s : State) : (deliverDropped s).alarm = s.alarm := by
  have fold : ∀ (l : List Tag) (x : State), (l.foldl (fun s t => answerOffer t .none s) x).alarm = x.alarm := by
    intro l
    induction l with
    | nil => exact fun _ => rfl
    | cons t ts ih => exact fun x => (ih _).trans (answerOffer_none_alarm t x)
  exact fold _ _

/-! ### The end of a command, step by step -/

theorem finish_of_active {s : State} (h : s.active = true) : finish s = settleOnce (settleOnce (settleOnce s)) := if_pos h

/-- What the answers to dropped offers, each report and each announcement keep, the end of a command keeps. -/
theorem finish_induction {P : State → Prop} (hd : ∀ s, P s → P (deliverDropped s)) (hr : ∀ c s, P s → P (reportCode c s))
    (ha : ∀ c s, pickRequest s.cfg s.alarm = some c → P s → P (announcePick c s)) {s : State} (h : P s) :
    P (finish s) := by
  have reports : ∀ (l : List Nat) (s : State), P s → P (reportCodes l s) := by
    intro l
    induction l with
    | nil => exact fun _ h => h
    | cons c cs ih => exact fun s h => ih _ (hr c s h)
  have announcements : ∀ (n : Nat) (s : State), P s → P (announceAll n s) := by
    intro n
    induction n with
    | zero => exact fun _ h => h
    | succ n ih =>
      intro s h
      unfold announceAll
      split
      · exact h
      · exact ih _ (ha _ s ‹_› h)
  have pass : ∀ s, P s → P (settleOnce s) := fun s h => announcements _ _ (reports _ _ (hd s h))
  unfold finish
  split
  · exact pass _ (pass _ (pass _ h))
  · exact h

theorem length_flags_settleOnce (s : State) : (settleOnce s).alarm.flags.length = s.alarm.flags.length := by
  unfold settleOnce syncAlarms
  rw [flags_announceAll, length_flags_reportCodes, deliverDropped_alarm]

/-- A pass leaves every flag at its condition and nothing to announce. -/
theorem settled_settleOnce {s : State} (h : s.alarm.flags.length = 64) :
    FlagsAgree (settleOnce s) ∧ pickRequest (settleOnce s).cfg (settleOnce s).alarm = none :=
  ⟨flagsAgree_announceAll 64 (flagsAgree_syncAlarms (by rw [deliverDropped_alarm]; exact h)),
    pickRequest_announceAll (length_candidates_le ..)⟩

/-- Where every flag is at its condition and nothing is to be announced, a pass changes nothing. -/
theorem settleOnce_of_settled {s : State} (hd : s.link.offersDropped = []) (hf : FlagsAgree s)
    (hp : pickRequest s.cfg s.alarm = none) : settleOnce s = s := by
  have delivered : deliverDropped s = s := by
    unfold deliverDropped
    rw [hd]
    exact (congrArg (fun l => { s with link := { s.link with offersDropped := l } }) hd).symm
  have reports : ∀ l, reportCodes l s = s := by
    intro l
    induction l with
    | nil => rfl
    | cons c cs ih => rw [reportCodes, reportCode_of_agree fun v hv => hf c v hv, ih]
  unfold settleOnce syncAlarms
  rw [delivered, reports]
  unfold announceAll
  rw [hp]

/-! ### A code through the end of a command -/

/-- A latched code's recovery condition is settled by what `steady` keeps. -/
theorem dueFlag_of_steady {s t : State} {c : Nat} (hc : alarmLive c = false) (h : steady t = steady s) :
    dueFlag t c = dueFlag s c := by
  have e : ∀ x : State, dueFlag x c = dueFlag (steady x) c := fun x => by
    simp only [dueFlag, hc]; rfl
  rw [e t, e s, h]

theorem at_reportCode_of_due_false {c : Nat} {s : State} (hc : alarmLive c = false)
    (h : ∀ v, dueFlag s c = some v → v = false) : (reportCode c s).alarm.at c = s.alarm.at c := by
  unfold reportCode
  rw [if_neg (by simp [hc])]
  split
  · rename_i cond
    have off := h (recoveryHolds s c) (by simp [dueFlag, hc, cond])
    rw [off]
    unfold reportRecovery
    split <;> rfl
  · rfl

/-- A latched code that stands in a set and does not recover stands there through the end of a command. -/
theorem standing_finish {c : Nat} {s : State} (hc : alarmLive c = false) (lv : levelOf c ≠ 0)
    (h : ∀ v, dueFlag s c = some v → v = false) (hs : s.alarm.standing c = true) :
    (finish s).alarm.standing c = true := by
  refine (finish_induction (P := fun t => (∀ v, dueFlag t c = some v → v = false) ∧ t.alarm.standing c = true)
    (fun t ht => ⟨?_, by rw [deliverDropped_alarm]; exact ht.2⟩) (fun d t ht => ⟨?_, ?_⟩)
    (fun d t _ ht => ⟨?_, ?_⟩) ⟨h, hs⟩).2
  · rw [dueFlag_of_steady hc (steady_deliverDropped t)]; exact ht.1
  · rw [dueFlag_of_offAlarm (offAlarm_reportCode d t)]; exact ht.1
  · rw [AlarmUnit.standing_iff]
    by_cases e : c = d
    · subst e; rw [at_reportCode_of_due_false hc ht.1]; exact AlarmUnit.standing_iff.mp ht.2
    · rw [(others_reportCode d t).place c e]; exact AlarmUnit.standing_iff.mp ht.2
  · rw [dueFlag_of_offAlarm (offAlarm_announcePick d t)]; exact ht.1
  · rw [AlarmUnit.standing_iff]
    by_cases e : c = d
    · subst e
      have hl := AlarmUnit.lt_of_at rfl (AlarmUnit.standing_iff.mp ht.2)
      rw [announcePick_of_level lv]
      simp [AlarmUnit.at_move (a := t.alarm.pointPast c) hl]
    · rw [(others_announcePick d t).place c e]; exact AlarmUnit.standing_iff.mp ht.2

end Sys2Proof.Machine
end

section
/-! Announcements, reports and the end of a command: O53 and O54. -/
namespace Sys2Proof.Machine

/-! ### Conditions (R188) -/

theorem levelOf_eq_seven_iff (c : Nat) : levelOf c = 7 ↔ alarmLevel c = some 7 := by
  unfold levelOf
  cases alarmLevel c <;> simp

theorem downstream_iff (s : State) (a : Answer) : downstream s a = true ↔ ∃ t r, s.board.handoff.bound = some t ∧
    findRecord t s.board.queue = some r ∧ r.state = .blocked ∧ s.board.handoff.last = some a := by
  unfold downstream
  cases s.board.handoff.bound with
  | none => simp
  | some t =>
    cases h : findRecord t s.board.queue with
    | none => simp [h]
    | some r => simp [h]

theorem refUnavailable_iff (st : RecipeStore) (r : Ref) : refUnavailable st r = true ↔
    (∃ p, r = .unentered p) ∨ ∃ i e, r = .entry i ∧ st.entry i = some e ∧ e.fetch = .failed := by
  cases r with
  | entry i =>
    unfold refUnavailable
    cases h : st.entry i <;> simp [h]
  | default => simp [refUnavailable]
  | service n => simp [refUnavailable]
  | unentered p => simp [refUnavailable]

theorem recipeUnavailable_iff (s : State) : recipeUnavailable s = true ↔
    ∃ r, ((∃ e ∈ s.board.expected, e.ref = r) ∨ ∃ b ∈ s.board.queue, b.ref = r) ∧
      ((∃ p, r = .unentered p) ∨ ∃ i e, r = .entry i ∧ s.recipe.entry i = some e ∧ e.fetch = .failed) := by
  simp only [recipeUnavailable, Bool.or_eq_true, List.any_eq_true, ← refUnavailable_iff]
  constructor
  · rintro (⟨e, he, h⟩ | ⟨b, hb, h⟩)
    · exact ⟨e.ref, .inl ⟨e, he, rfl⟩, h⟩
    · exact ⟨b.ref, .inr ⟨b, hb, rfl⟩, h⟩
  · rintro ⟨r, ⟨e, he, rfl⟩ | ⟨b, hb, rfl⟩, h⟩
    · exact .inl ⟨e, he, h⟩
    · exact .inr ⟨b, hb, h⟩

theorem peerFresh_eq_false_iff (s : State) (n : Nat) : peerFresh s n = false ↔ ∀ p, peer s n = some p → 1000 ≤ p.age := by
  unfold peerFresh peerStaleAge
  cases peer s n <;> simp

theorem peerStale_iff (s : State) : peerStale s = true ↔ ∃ n, n < 16 ∧ s.cfg.member n = true ∧ n ≠ s.me ∧
    ∀ p, peer s n = some p → 1000 ≤ p.age := by
  simp only [peerStale, List.any_eq_true, List.mem_range, Bool.and_eq_true, bne_iff_ne, ne_eq, Bool.not_eq_true',
    peerFresh_eq_false_iff, and_assoc]

/-! ### What an announcement leaves -/

/-- An announced code of level 1 to 7 is pending, and the unit besides is that of the announcement. -/
theorem alarm_announcePick_of_level {c : Nat} (h : levelOf c ≠ 0) (s : State) : (announcePick c s).alarm =
    ((s.alarm.pointPast c).move c (.pending false)).enter ⟨s.me, c, levelOf c, false, false⟩ := by
  rw [announcePick_of_level h, queueStatus_alarm, announce_alarm]; rfl

theorem alarm_announcePick_of_level0 {c : Nat} (h : levelOf c = 0) (s : State) : (announcePick c s).alarm =
    ((((s.alarm.pointPast c).move c .inService).enter ⟨s.me, c, levelOf c, true, false⟩).move c .idle).strike
      (LineEntry.is s.me c) := by
  rw [announcePick_of_level0 h, clearCode_alarm, announce_alarm]
  have me : (announce c true false { s with alarm := (s.alarm.pointPast c).move c .inService }).me = s.me := by
    simp [announce, queueRaise]; rfl
  rw [me]; rfl

/-- No entry of an origin and code is left in the list once it is struck. -/
theorem not_mem_strike {o c : Nat} {a : AlarmUnit} : ∀ x ∈ (a.strike (LineEntry.is o c)).list, ¬(x.origin = o ∧ x.code = c) := by
  rintro x hx ⟨rfl, rfl⟩
  have kept := (List.mem_filter.mp hx).2
  rw [show LineEntry.is x.origin x.code x = true by simp [LineEntry.is]] at kept
  exact absurd kept nofun

theorem queueRaise_waits {c : Nat} {i g : Bool} {s : State} (hq : s.link.queue.length < 12) :
    Waits (queueRaise c i g s) allTarget (.alarmRaise c (levelOf c) i g) := waits_enqueue rfl hq

theorem announce_waits {c : Nat} {i g : Bool} {s : State} (hq : s.link.queue.length < 12) :
    Waits (announce c i g s) allTarget (.alarmRaise c (levelOf c) i g) := by
  unfold announce
  exact queueRaise_waits hq

theorem clearCode_waits {c : Nat} {g : Bool} {s : State} (hq : s.link.queue.length < 12) :
    Waits (clearCode c g s) allTarget (.alarmClear c g) := waits_enqueue rfl hq

/-- A frame queued takes one place in the queue at most. -/
theorem length_enqueue_le_succ (b : Block) (x : BitVec 5) (y : Body) {s : State} (hq : s.link.queue.length < 12) :
    (enqueue b x y s).link.queue.length ≤ s.link.queue.length + 1 := by
  rw [enqueue_queue]
  rcases noneWaiting_or_split ⟨y, x, b, false, false⟩ s.link.queue with none | ⟨pre, z, post, hz, zt, zk, hpre⟩
  · rw [placeFrame_of_room (.inr none) hq]; simp
  · rcases Bool.eq_false_or_eq_true y.replaces with r | r
    · rw [hz, placeFrame_of_waiting r zt zk hpre]; simp
    · rw [placeFrame_of_room (.inl r) hq]; simp

theorem length_announce_le_succ {c : Nat} {i g : Bool} {s : State} (hq : s.link.queue.length < 12) :
    (announce c i g s).link.queue.length ≤ s.link.queue.length + 1 := by
  unfold announce queueRaise
  exact length_enqueue_le_succ (s := { s with alarm := _ }) _ _ _ hq

/-- A frame waits in a state whose queue is another's. -/
theorem Waits.of_queue {s t : State} {x : BitVec 5} {y : Body} (h : Waits s x y) (e : t.link.queue = s.link.queue) :
    Waits t x y := by
  unfold Waits; rw [e]; exact h

theorem Waits.clearCode {s : State} {x : BitVec 5} {y : Body} (c : Nat) (g : Bool) (h : Waits s x y)
    (hq : s.link.queue.length < 12) : Waits (clearCode c g s) x y := by
  unfold Machine.clearCode
  exact Waits.enqueue .alarms (h.of_queue rfl) hq (.inl rfl)

/-- The frame of a body that waits, its target left out. -/
theorem Waits.body {s : State} {x : BitVec 5} {y : Body} (h : Waits s x y) :
    ∃ e ∈ s.link.queue, e.inTx = false ∧ e.body = y :=
  h.imp fun _ ⟨he, tx, _, body⟩ => ⟨he, tx, body⟩

/-! ### What a report does, by where its code stands -/

section
variable {c : Nat} {s : State}

theorem reportLive_start (h : s.alarm.flag c = false) : reportLive c true s = conditionStarts c s := by
  simp [reportLive, h]

theorem reportLive_end (h : s.alarm.flag c = true) : reportLive c false s = conditionEnds c s := by
  simp [reportLive, h]

theorem conditionStarts_of_idle (h : s.alarm.at c = .idle) :
    conditionStarts c s = { s with alarm := (s.alarm.setFlag c true).move c .request } := by
  unfold conditionStarts; rw [h]

theorem conditionStarts_of_gone (h : s.alarm.at c = .pending true) :
    conditionStarts c s = remark c false { s with alarm := s.alarm.setFlag c true } := by
  unfold conditionStarts; rw [h]

theorem conditionStarts_of_standing (h : s.alarm.at c = .request ∨ s.alarm.at c = .pending false ∨ s.alarm.at c = .inService) :
    conditionStarts c s = { s with alarm := s.alarm.setFlag c true } := by
  unfold conditionStarts
  rcases h with h | h | h <;> rw [h]

theorem conditionEnds_of_request (h : s.alarm.at c = .request) :
    conditionEnds c s = { s with alarm := (s.alarm.setFlag c false).move c .idle } := by
  unfold conditionEnds; rw [h]

theorem conditionEnds_of_pending (h : s.alarm.at c = .pending false) :
    conditionEnds c s = remark c true { s with alarm := s.alarm.setFlag c false } := by
  unfold conditionEnds; rw [h]

theorem conditionEnds_of_inService (h : s.alarm.at c = .inService) :
    conditionEnds c s = leaveInService c { s with alarm := s.alarm.setFlag c false } := by
  unfold conditionEnds; rw [h]

theorem conditionEnds_of_idle_or_gone (h : s.alarm.at c = .idle ∨ s.alarm.at c = .pending true) :
    conditionEnds c s = { s with alarm := s.alarm.setFlag c false } := by
  unfold conditionEnds
  rcases h with h | h <;> rw [h]

theorem remark_waits {g : Bool} (hq : s.link.queue.length < 12) :
    Waits (remark c g s) allTarget (.alarmRaise c (levelOf c) false g) := by
  unfold remark
  exact queueRaise_waits hq

theorem at_remark {g : Bool} (hc : c < s.alarm.place.length) : (remark c g s).alarm.at c = .pending g := by
  rw [remark_alarm]; exact AlarmUnit.at_move hc

theorem rederive_alarm_cases (k : Nat) (s : State) : (rederive k s).alarm = s.alarm ∨
    (rederive k s).alarm = (s.alarm.setFlag (24 + k) false).appear s.cfg (24 + k) := by
  unfold rederive
  split
  · exact .inl rfl
  · simp only []
    split
    · exact .inr rfl
    · exact .inl rfl

@[simp] theorem rederive_link (k : Nat) (s : State) : (rederive k s).link = s.link := by
  unfold rederive
  split
  · rfl
  · simp only []
    split <;> rfl

@[simp] theorem leaveInService_link (c : Nat) (s : State) : (leaveInService c s).link = (clearCode c false s).link := by
  unfold leaveInService
  simp only []
  split
  · rw [rederive_link]; rfl
  · rfl

/-- Leaving service clears the code; OVERTEMP may make SETTLE LOST appear besides. -/
theorem leaveInService_alarm_cases (c : Nat) (s : State) :
    (leaveInService c s).alarm = (clearCode c false s).alarm ∨ (inLimits 18 c 23 = true ∧ ∃ img,
      (leaveInService c s).alarm = ((clearCode c false s).alarm.setFlag (24 + (c - 18)) false).appear img (24 + (c - 18))) := by
  unfold leaveInService
  simp only []
  split
  · rcases rederive_alarm_cases (c - 18) (modChannel (c - 18) (fun ch => { ch with trip := false }) (clearCode c false s))
      with h | h
    · exact .inl h
    · exact .inr ⟨‹_›, _, h⟩
  · exact .inl rfl

theorem leaveInService_waits (hq : s.link.queue.length < 12) :
    Waits (leaveInService c s) allTarget (.alarmClear c false) :=
  (clearCode_waits hq).of_queue (by rw [leaveInService_link])

/-- A code leaves service for idle. -/
theorem at_leaveInService (c : Nat) (s : State) : (leaveInService c s).alarm.at c = .idle := by
  have idle : (clearCode c false s).alarm.at c = .idle := by rw [clearCode_alarm]; exact AlarmUnit.at_move_idle
  rcases leaveInService_alarm_cases c s with h | ⟨ot, img, h⟩ <;> rw [h]
  · exact idle
  · have := inLimits_eq_true_iff.mp ot
    rw [AlarmUnit.at_appear_ne img (by omega)]; exact idle

theorem flag_leaveInService (c : Nat) (s : State) : (leaveInService c s).alarm.flag c = s.alarm.flag c := by
  have same : (clearCode c false s).alarm.flag c = s.alarm.flag c := by rw [clearCode_alarm]; rfl
  rcases leaveInService_alarm_cases c s with h | ⟨ot, img, h⟩ <;> rw [h]
  · exact same
  · have := inLimits_eq_true_iff.mp ot
    rw [AlarmUnit.flag_appear, AlarmUnit.flag_setFlag_ne (by omega)]; exact same

theorem reportRecovery_holds (h : s.alarm.flag c = false) : reportRecovery c true s =
    match s.alarm.at c with
    | .request => if s.cfg.masked c then { s with alarm := (s.alarm.setFlag c true).move c .idle }
      else { s with alarm := s.alarm.setFlag c true }
    | .inService => leaveInService c { s with alarm := s.alarm.setFlag c true }
    | .idle | .pending _ => { s with alarm := s.alarm.setFlag c true } := by
  unfold reportRecovery
  exact (if_neg (by simp [h])).trans ((if_neg (by simp)).trans rfl)

end

/-- A STATUS queued after another frame puts no waiting frame of another kind out. -/
theorem Waits.queueStatus {s : State} {x : BitVec 5} {y : Body} (m : Bool) (h : Waits s x y)
    (hq : s.link.queue.length < 12) (hy : y.kind ≠ .status) : Waits (queueStatus m s) x y :=
  
  (Waits.enqueue (s := computeBlockers s) (y' := .status (gatherStatus m (computeBlockers s))) .link h hq
    (.inr fun e => hy (num_injective e))).of_queue (by rw [queueStatus_link])

end Sys2Proof.Machine
end

section
open Sys2Proof Sys2Proof.Machine

/-- Settles O54: the last pass leaves every flag at its condition and nothing to announce; the codes' table row by row. -/
theorem finishReportsAndAnnounces : Obligations.FinishReportsAndAnnounces := by
  have due_iff (c : Nat) : (c < 18 ∨ 23 < c) ↔ ¬(18 ≤ c ∧ c ≤ 23) := by omega
  refine ⟨fun s h => if_neg (by simp [h]), fun s ha hf => ?_, fun s hd live recov hp => ?_, fun s => ?_,
    fun n s => ⟨fun h => ?_, fun c h => ?_⟩, ⟨alarmLive_iff, alarmRecovery_eq_resetOnly_iff, fun c => alarmRecovery_condition_iff c, ?_, by decide,
      fun c hc => ?_⟩, fun s => ?_⟩
  · have size : (settleOnce (settleOnce s)).alarm.flags.length = 64 := by
      rw [length_flags_settleOnce, length_flags_settleOnce, hf]
    obtain ⟨agree, none⟩ := settled_settleOnce size
    rw [finish_of_active ha]
    refine ⟨fun c hc => agree c _ (by simp [dueFlag, hc]), fun c hc cond range => agree c _ ?_, none, ?_⟩
    · rw [dueFlag, if_neg (by simp [hc]), if_pos ⟨cond, (due_iff c).mp range⟩]
    · rw [length_flags_settleOnce, size]
  · have agree : FlagsAgree s := by
      intro c v hv
      unfold dueFlag at hv
      split at hv
      · cases hv; exact live c ‹_›
      · split at hv
        · rename_i latched cond
          cases hv
          exact recov c (by simpa using latched) cond.1 ((due_iff c).mpr cond.2)
        · cases hv
    have same := settleOnce_of_settled hd agree hp
    unfold finish
    split
    · rw [same, same, same]
    · rfl
  · intro report tell pass ha
    have codes : ∀ (l : List Nat) (u : State), reportCodes l u = l.foldl report u := by
      intro l
      induction l with
      | nil => exact fun _ => rfl
      | cons c cs ih =>
        intro u
        rw [reportCodes, ih, List.foldl_cons]
        simp only [report, due_iff]
        rfl
    have same : ∀ u, settleOnce u = pass u := fun u => by
      show announceAll 64 (reportCodes (List.range 58) (deliverDropped u)) = _
      rw [codes]; rfl
    rw [finish_of_active ha, same, same, same]
  · cases n with
    | zero => rfl
    | succ n => unfold announceAll; rw [h]
  · rw [announceAll, h]
  · decide
  · have := levelOf_eq_zero_iff.mpr (.inr hc)
    unfold alarmLevel
    rw [if_neg (by omega), if_neg (by omega), if_neg (by omega), if_neg (by omega), if_neg (by omega)]
    exact List.getElem?_eq_none (by simp; omega)
  · refine ⟨fun k hk => ?_, ?_, downstream_iff s _, downstream_iff s _, recipeUnavailable_iff s, ?_, ?_, ?_, ?_, ?_, ?_, ?_,
      ?_, Iff.rfl, Iff.rfl, ?_, peerStale_iff s, ?_, fun k hk => ?_, fun k hk => ?_, ?_, Iff.rfl, ?_⟩
    · unfold liveHolds
      rw [if_pos (inLimits_eq_true_iff.mpr (by omega)), Nat.add_sub_cancel_left]
      cases channel s k <;> simp
    · show (s.running && s.cfg.hasHeaters && s.heat.mainsMissing) = true ↔ _
      simp [Image.hasHeaters, running_eq_true_iff, and_assoc]
    · show (s.flux.low.taken == some true) = true ↔ _
      simp
    · show (s.flux.empty.taken == some true) = true ↔ _
      simp
    · show (s.pot.level == some .low) = true ↔ _
      simp
    · show (s.pot.level == some .lowLow) = true ↔ _
      simp
    · show (s.pot.level == some .high) = true ↔ _
      simp
    · show (s.cfg.functions.pot && decide (300000 ≤ s.pot.age)) = true ↔ _
      simp
    · show (s.running && s.cfg.functions.hood && !proven s) = true ↔ _
      simp only [Bool.and_eq_true, running_eq_true_iff, and_assoc, proven]
      refine and_congr_right fun _ => and_congr_right fun hood => ?_
      simp [hood]
    · show (s.running && s.cfg.functions.hood && decide (1000 ≤ s.fume.lost)) = true ↔ _
      simp [running_eq_true_iff, and_assoc]
    · show (s.link.isolation == 8) = true ↔ _
      simp
    · show (s.allot.short == 10) = true ↔ _
      simp
    · unfold recoveryHolds
      rw [if_pos (by omega)]
      cases channel s k <;> simp
    · unfold recoveryHolds
      rw [if_neg (by omega), if_pos (inLimits_eq_true_iff.mpr (by omega)), Nat.add_sub_cancel_left]
      cases channel s k <;> simp
    · show (s.pos.tally == 0) = true ↔ _
      simp
    · show (s.cfg.functions.fan && s.pins.fanRun) = true ↔ _
      simp

/-- Settles O53: the pick by its steps from the pointer, the announcement by its level, each report by where the code
stands. -/
theorem announcementPicksAndMoves : Obligations.AnnouncementPicksAndMoves := by
  refine ⟨fun img c => ⟨rfl, ?_⟩, fun img a c h => ?_, fun img a d h hd req free =>
      pending_of_pickRequest_none h (mem_candidates.mpr ⟨hd, req, free⟩), fun c s hc hp => ⟨fun lv => ?_, fun lv => ?_⟩,
    fun c v s h => ⟨if_pos h.symm, if_pos h.symm⟩, fun c s hc live hp hf => ?_, fun c s hc cond hp hf => ?_,
    fun k s hk hp hf => ?_⟩
  · simp [Image.masked, levelOf_eq_seven_iff]
  · obtain ⟨mem, highest, above⟩ := pickRequest_spec h
    obtain ⟨hc, req, free⟩ := mem_candidates.mp mem
    refine ⟨hc, req, free, fun d hd dreq dfree => ?_, fun d g hd hg => above d hd ⟨g, hg⟩⟩
    have dmem := mem_candidates.mpr ⟨hd, dreq, dfree⟩
    have picked : pickAt a (candidates img a) (levelOf c) = some c := by
      unfold pickRequest at h
      rw [highest] at h
      simp only [] at h
      split at h
      · split at h
        · exact h
        · cases h
      · exact h
    refine ⟨(le_foldl_max highest).2 _ (List.mem_map_of_mem dmem), fun same small => ?_⟩
    have := stepsFrom_le_of_pickAt picked dmem same hd
    rwa [stepsFrom, stepsFrom, Nat.mod_eq_of_lt small] at this
  · have place : (announcePick c s).alarm.at c = .pending false := by
      rw [alarm_announcePick_of_level lv, AlarmUnit.at_enter]
      exact AlarmUnit.at_move (show c < s.alarm.place.length by omega)
    refine ⟨place, (others_announcePick c s).place, ?_, ?_, ?_, fun hq => ?_⟩
    · rw [alarm_announcePick_of_level lv, AlarmUnit.rot_enter]; rfl
    · rw [announcePick_of_level lv, queueStatus_link]
    · rw [alarm_announcePick_of_level lv]
      exact list_enter_congr (a := (s.alarm.pointPast c).move c (.pending false)) (b := s.alarm) rfl _
    · rw [announcePick_of_level lv]
      have raised := announce_waits (c := c) (i := false) (g := false)
        (s := { s with alarm := (s.alarm.pointPast c).move c (.pending false) }) (Nat.lt_of_le_of_lt hq (by decide))
      have room := Nat.lt_of_le_of_lt (length_announce_le_succ (c := c) (i := false) (g := false)
        (s := { s with alarm := (s.alarm.pointPast c).move c (.pending false) }) (Nat.lt_of_le_of_lt hq (by decide)))
        (Nat.lt_succ_of_le (Nat.succ_le_succ hq))
      refine ⟨raised.queueStatus false room nofun, ?_⟩
      obtain ⟨e, he, tx, -, mark, body, -⟩ := queueStatus_waits false room
      exact ⟨e, _, he, tx, body, by rw [queueStatus_alarm]; rfl⟩
  · rw [alarm_announcePick_of_level0 lv]
    refine ⟨by simp [AlarmUnit.at_move_idle], ?_, not_mem_strike, fun hq => ?_⟩
    · show (AlarmUnit.enter _ _).rot = _
      rw [AlarmUnit.rot_enter]; rfl
    · have raised := announce_waits (c := c) (i := true) (g := false)
        (s := { s with alarm := (s.alarm.pointPast c).move c .inService }) (Nat.lt_of_le_of_lt hq (by decide))
      have room := Nat.lt_of_le_of_lt (length_announce_le_succ (c := c) (i := true) (g := false)
        (s := { s with alarm := (s.alarm.pointPast c).move c .inService }) (Nat.lt_of_le_of_lt hq (by decide)))
        (Nat.lt_succ_of_le (Nat.succ_le_succ hq))
      rw [announcePick_of_level0 lv]
      obtain ⟨e, he, tx, -, body⟩ := raised.clearCode c false room
      obtain ⟨f, hf, ftx, -, fbody⟩ := clearCode_waits (c := c) (g := false) room
      exact ⟨⟨e, he, tx, lv ▸ body⟩, f, hf, ftx, fbody⟩
  · have hl : c < s.alarm.place.length := by omega
    have ot := not_overtemp_of_live live
    refine ⟨fun off => ?_, fun on => ?_⟩
    · refine ⟨flag_reportLive ot (by omega) true, fun h => ?_, fun h => ?_, fun h => ?_⟩ <;>
        rw [reportLive_start off]
      · rw [conditionStarts_of_idle h]; exact AlarmUnit.at_move hl
      · rw [conditionStarts_of_standing h]; rfl
      · rw [conditionStarts_of_gone h]
        exact ⟨at_remark hl, by rw [remark_alarm]; rfl, by rw [remark_alarm]; rfl, fun hq => Waits.body (x := allTarget) (by refine remark_waits ?_; exact hq)⟩
    · refine ⟨flag_reportLive ot (by omega) false, fun h => ?_, fun h => ?_, fun h => ?_, fun h => ?_⟩ <;>
        rw [reportLive_end on]
      · rcases h with h | h
        · rw [conditionEnds_of_request h]; exact ⟨AlarmUnit.at_move_idle, rfl⟩
        · rw [conditionEnds_of_idle_or_gone (.inl h)]; exact ⟨h, rfl⟩
      · rw [conditionEnds_of_idle_or_gone (.inr h)]; exact h
      · rw [conditionEnds_of_pending h]
        exact ⟨at_remark hl, by rw [remark_alarm]; rfl, by rw [remark_alarm]; rfl, fun hq => Waits.body (x := allTarget) (by refine remark_waits ?_; exact hq)⟩
      · rw [conditionEnds_of_inService h]
        refine ⟨at_leaveInService .., ?_, fun hq => Waits.body (x := allTarget) (by refine leaveInService_waits ?_; exact hq)⟩
        rw [leaveInService_alarm _ _ ot]
        exact not_mem_strike
  · have hl : c < s.alarm.place.length := by omega
    have fl : c < s.alarm.flags.length := by omega
    have flagged : (s.alarm.setFlag c true).flag c = true := AlarmUnit.flag_setFlag fl
    refine ⟨fun on => by simp [reportRecovery, on, recoveryEnds], fun off => ?_⟩
    rw [reportRecovery_holds off]
    refine ⟨?_, fun h => ?_, fun h => ?_, fun g h => ?_, fun h => ?_⟩
    · split
      · split <;> exact flagged
      · rw [flag_leaveInService]; exact flagged
      all_goals exact flagged
    · rw [h]
      simp only []
      split
      · exact AlarmUnit.at_move_idle
      · exact h
    · rw [h]; exact h
    · rw [h]; exact h
    · rw [h]
      exact ⟨at_leaveInService .., fun hq => Waits.body (x := allTarget) (by refine leaveInService_waits ?_; exact hq)⟩
  · have fl : 24 + k < s.alarm.flags.length := by omega
    have clear : (s.alarm.setFlag (24 + k) false).flag (24 + k) = false := AlarmUnit.flag_setFlag fl
    rw [settleLost_alarm, AlarmUnit.flag_appear, AlarmUnit.at_appear (a := s.alarm.setFlag (24 + k) false) (show 24 + k < s.alarm.place.length by omega)
      (.inr (.inr clear))]
    exact ⟨clear, rfl⟩

end

section
/-! The frame of the position events (R36, R41, R57): what no event, edge or admission writes. -/
namespace Sys2Proof.Machine

/-- `steady`, but for what the events and edges write besides: the boards, the gate, the series and its checks, and
the count of free values read. -/
def calm (s : State) : State :=
  { steady s with
    board := { Tracker.cold with expected := s.board.expected }
    flux := { Flux.cold with low := s.flux.low, empty := s.flux.empty }
    freeCount := 0 }

theorem calm_of_steady {s t : State} (h : steady t = steady s) : calm t = calm s := by
  have e : ∀ x : State, calm x = calm (steady x) := fun _ => rfl
  rw [e t, e s, h]

theorem calm_of_offAlarm {s t : State} (h : offAlarm t = offAlarm s) : calm t = calm s :=
  calm_of_steady (steady_of_offAlarm h)

theorem calm_ite {p : Prop} [Decidable p] {x y s : State} (hx : calm x = calm s) (hy : calm y = calm s) :
    calm (if p then x else y) = calm s := by split <;> assumption

theorem calm_finish (s : State) : calm (finish s) = calm s := calm_of_steady (steady_finish s)

theorem calm_enqueue (b : Block) (x : BitVec 5) (y : Body) (s : State) : calm (enqueue b x y s) = calm s :=
  calm_of_offAlarm (offAlarm_enqueue ..)

theorem calm_appearance (c : Nat) (s : State) : calm (appearance c s) = calm s :=
  calm_of_offAlarm (offAlarm_appearance ..)

theorem calm_addException (t : Tag) (c q : Nat) (s : State) : calm (addException t c q s) = calm s := rfl

theorem calm_markHandled (t : Tag) (s : State) : calm (markHandled t s) = calm s := by
  unfold markHandled; split <;> rfl

theorem calm_closeSeries (s : State) : calm (closeSeries s) = calm s := by
  obtain ⟨_, _, _, h⟩ := closeSeries_eq s; rw [h]; rfl

theorem calm_formRequired (s : State) : calm (formRequired s) = calm s := calm_of_steady (steady_formRequired s)

theorem calm_touchPumps (s : State) : calm (touchPumps s) = calm s := calm_of_steady (steady_touchPumps s)

theorem calm_flux (s : State) (f : Flux) (hl : f.low = s.flux.low) (he : f.empty = s.flux.empty) :
    calm { s with flux := f } = calm s := by simp [calm, steady, offAlarm, hl, he]

theorem noFlowCount_tanks (fl : Flux) (r : Series) :
    (noFlowCount fl r).low = fl.low ∧ (noFlowCount fl r).empty = fl.empty := by
  unfold noFlowCount
  repeat' split
  all_goals exact ⟨rfl, rfl⟩

theorem calm_meterSeries (s : State) : calm (meterSeries s) = calm s := by
  unfold meterSeries
  split
  · rfl
  · rename_i r _
    have written : calm (if 0 < r.fired then
          formRequired (mapRecord r.tag (fun b => { b with volume := some r.flow }) s)
        else addException r.tag xFluxSkipped 0 s) = calm s := by
      split
      · rw [calm_formRequired]; rfl
      · rfl
    have checked : ∀ x : State, calm (if r.starved then addException r.tag xFluxStarved 0 x else x) = calm x := by
      intro x; split <;> rfl
    have counted : ∀ x : State, calm { x with flux := { noFlowCount x.flux r with series := none } } = calm x := fun x =>
      calm_flux x _ (noFlowCount_tanks x.flux r).1 (noFlowCount_tanks x.flux r).2
    simp only []
    refine calm_ite ?_ ?_
    · rw [calm_appearance, counted, checked, written]
    · rw [counted, checked, written]

theorem calm_removeRecord (t : Tag) (s : State) : calm (removeRecord t s) = calm s :=
  calm_of_steady (steady_removeRecord t s)

theorem calm_removeWithExit (t : Tag) (c : ExitCause) (s : State) : calm (removeWithExit t c s) = calm s :=
  calm_of_steady (steady_removeWithExit t c s)

theorem calm_offerBoard (t : Tag) (s : State) : calm (offerBoard t s) = calm s := by
  unfold offerBoard
  split
  · rw [calm_enqueue]; rfl
  · rfl

theorem calm_refusedKind (t : Tag) (k : EventKind) (s : State) : calm (refusedKind t k s) = calm s := by
  unfold refusedKind
  split
  · split
    · rfl
    · rw [calm_markHandled]; rfl
  all_goals rfl

theorem calm_insertEvent (t : Tag) (k : EventKind) (q : Nat) (due : Pos) (s : State) :
    calm (insertEvent t k q due s).2 = calm s := by
  unfold insertEvent
  split
  · rfl
  · rw [calm_refusedKind]; rfl

theorem calm_insertAll (t : Tag) (es : List (EventKind × Nat × Pos)) (s : State) : calm (insertAll t es s) = calm s := by
  induction es generalizing s with
  | nil => rfl
  | cons e es ih =>
    obtain ⟨k, q, due⟩ := e
    rw [insertAll, ih, calm_insertEvent]

theorem calm_makeStray (p : Pos) (s : State) : calm (makeStray p s) = calm s := by
  unfold makeStray
  simp only []
  split
  · exact calm_appearance ..
  · rw [calm_insertAll]
    exact calm_appearance 32 s

theorem calm_entryLeading (p : Pos) (s : State) : calm (entryLeading p s) = calm s := by
  unfold entryLeading
  simp only []
  split
  · rw [calm_makeStray]; rfl
  · rw [calm_insertAll]; rfl

theorem calm_setSpacing (p : Pos) (s : State) : calm (setSpacing p s) = calm s := by
  unfold setSpacing; split <;> rfl

theorem calm_entryTrailing (p : Pos) (s : State) : calm (entryTrailing p s) = calm s := by
  unfold entryTrailing
  simp only []
  split
  · exact calm_setSpacing ..
  · rw [calm_insertAll]; exact calm_setSpacing ..

theorem calm_exitLeading (s : State) : calm (exitLeading s) = calm s := by
  unfold exitLeading
  split
  · rfl
  · split
    · rfl
    · split
      · rfl
      · rw [calm_offerBoard]; rfl

theorem calm_exitTrailing (s : State) : calm (exitTrailing s) = calm s := by
  unfold exitTrailing
  split
  · exact calm_removeWithExit ..
  · split
    · rfl
    · split
      · rfl
      · split
        · exact calm_removeRecord ..
        · split
          · exact calm_removeWithExit ..
          · split <;> rfl

theorem calm_deliverEdge (e : Edge) (s : State) : calm (deliverEdge e s) = calm s := by
  unfold deliverEdge
  split
  · exact calm_entryLeading ..
  · exact calm_entryTrailing ..
  · exact calm_exitLeading ..
  · exact calm_exitTrailing ..

theorem calm_arrivalDeadline (t : Tag) (s : State) : calm (arrivalDeadline t s) = calm s := by
  have shut : calm (if s.board.gate = some t then { s with board := { s.board with gate := none } } else s) = calm s := by
    split <;> rfl
  unfold arrivalDeadline
  simp only []
  split
  · exact shut
  · split
    · rw [calm_appearance, calm_removeWithExit]; exact shut
    · exact shut

theorem calm_exitDeadline (t : Tag) (s : State) : calm (exitDeadline t s) = calm s := by
  unfold exitDeadline
  split
  · rfl
  · split
    · rw [calm_appearance, calm_removeWithExit]
    · rfl

theorem calm_firstUse (t : Tag) (s : State) : calm (firstUse t s) = calm s := by
  unfold firstUse
  split
  · rfl
  · split
    · rw [calm_appearance]; rfl
    · rfl

theorem calm_profileEvent (t : Tag) (e : Bool) (z : Nat) (s : State) : calm (profileEvent t e z s) = calm s := by
  unfold profileEvent
  split
  · exact calm_enqueue ..
  · rfl

theorem calm_zoneEnter (t : Tag) (z : Nat) (s : State) : calm (zoneEnter t z s) = calm s := by
  unfold zoneEnter
  split
  · rfl
  · simp only []
    rw [calm_profileEvent]; exact calm_firstUse ..

theorem calm_judgeNote (t : Tag) (z : Nat) (n : ZoneNote) (s : State) : calm (judgeNote t z n s) = calm s := by
  unfold judgeNote
  simp only []
  split <;> split <;> rfl

theorem calm_zoneLeave (t : Tag) (z : Nat) (s : State) : calm (zoneLeave t z s) = calm s := by
  unfold zoneLeave
  rw [calm_profileEvent]
  split
  · rfl
  · exact calm_judgeNote ..

theorem calm_openSeries (t : Tag) (p : FluxPage) (s : State) : calm (openSeries t p s) = calm s := by
  have metered : calm (preemptSeries s) = calm s := by
    unfold preemptSeries; rw [calm_meterSeries, calm_closeSeries]
  unfold openSeries
  simp only []
  refine calm_ite ?_ ?_
  · rw [calm_insertEvent, calm_markHandled]; exact metered
  · rw [calm_closeSeries, calm_addException, calm_insertEvent, calm_markHandled]; exact metered

theorem calm_skipFlux (t : Tag) (s : State) : calm (skipFlux t s) = calm s := by
  unfold skipFlux; rw [calm_markHandled]; rfl

theorem calm_fluxStart (t : Tag) (s : State) : calm (fluxStart t s) = calm s := by
  unfold fluxStart
  split
  · rfl
  · simp only []
    split
    · rw [calm_skipFlux, calm_firstUse]
    · split
      · rw [calm_skipFlux, calm_firstUse]
      · rw [calm_openSeries, calm_firstUse]

theorem calm_judgeStroke (r : Series) (s : State) : calm (judgeStroke r s) = calm s := by
  unfold judgeStroke
  split
  · rw [calm_appearance]; rfl
  · split <;> rfl

theorem calm_fluxStroke (t : Tag) (due : Pos) (s : State) : calm (fluxStroke t due s) = calm s := by
  unfold fluxStroke
  split
  · rfl
  · split
    · simp only []
      split
      · rw [calm_insertEvent, calm_judgeStroke]
      · rw [calm_closeSeries, calm_addException, calm_insertEvent, calm_judgeStroke]
    · rfl

theorem calm_fluxEnd (t : Tag) (s : State) : calm (fluxEnd t s) = calm s := by
  unfold fluxEnd
  split
  · exact calm_closeSeries ..
  · split
    · rfl
    · rw [calm_skipFlux]; rfl

theorem calm_waveRaise (t : Tag) (s : State) : calm (waveRaise t s) = calm s := by
  unfold waveRaise
  split
  · rfl
  · simp only []
    split
    · exact calm_firstUse ..
    · rw [calm_touchPumps]
      split
      · rw [calm_addException]; exact calm_firstUse ..
      · exact calm_firstUse ..

theorem calm_fireEvent (e : Event) (s : State) : calm (fireEvent e s) = calm s := by
  unfold fireEvent
  split
  · exact calm_arrivalDeadline ..
  · exact calm_exitDeadline ..
  · exact calm_zoneEnter ..
  · exact calm_zoneLeave ..
  · exact calm_fluxStart ..
  · exact calm_fluxStroke ..
  · exact calm_fluxEnd ..
  · exact calm_waveRaise ..
  · exact calm_of_steady (steady_potRemoval ..)

theorem calm_fireHead (s : State) : calm (fireHead s) = calm s := by
  unfold fireHead
  split
  · rfl
  · rw [calm_fireEvent]; rfl

theorem calm_handOver (es : List Edge) (s : State) : calm (handOver es s).2 = calm s := by
  have free : calm (freeIndex (waiting es s) s).2 = calm s := by unfold freeIndex; split <;> rfl
  unfold handOver
  simp only []
  split
  · rw [calm_deliverEdge]; exact free
  · rw [calm_fireHead]; exact free

theorem calm_runSchedule (n : Nat) (es : List Edge) (s : State) : calm (runSchedule n es s) = calm s := by
  induction n generalizing es s with
  | zero => rfl
  | succ n ih =>
    unfold runSchedule
    simp only []
    split
    · rfl
    · split
      · exact calm_finish s
      · rw [ih, calm_handOver, calm_finish]

/-- No event and no edge writes what `calm` keeps. -/
theorem calm_runEvents (es : List Edge) (s : State) : calm (runEvents es s) = calm s := by
  unfold runEvents
  split
  · exact calm_runSchedule ..
  · rfl

/-- `calm`, but for what opening the gate writes besides: the expected list. -/
def gated (s : State) : State := { calm s with board := Tracker.cold }

theorem gated_of_calm {s t : State} (h : calm t = calm s) : gated t = gated s := by simp [gated, h]

theorem gated_openGate (h : Expected) (s : State) : gated (openGate h s) = gated s := by
  unfold openGate
  simp only []
  rw [gated_of_calm (calm_enqueue ..), gated_of_calm (calm_insertEvent ..)]; rfl

theorem gated_judgeAdmission (s : State) : gated (judgeAdmission s) = gated s := by
  unfold judgeAdmission
  split
  · rfl
  · split
    · rw [gated_of_calm (calm_runEvents ..), gated_openGate]
    · rfl

theorem eq_of_gated {α : Type} (f : State → α) (hf : ∀ x, f (gated x) = f x) {s t : State} (h : gated t = gated s) :
    f t = f s := by rw [← hf, h, hf]

theorem eq_of_calm {α : Type} (f : State → α) (hf : ∀ x, f (calm x) = f x) {s t : State} (h : calm t = calm s) :
    f t = f s := by rw [← hf, h, hf]

section
variable (es : List Edge) (s : State)

@[simp] theorem runEvents_loader : (runEvents es s).loader = s.loader := eq_of_calm (·.loader) (fun _ => rfl) (calm_runEvents es s)
@[simp] theorem runEvents_pins : (runEvents es s).pins = s.pins := eq_of_calm (·.pins) (fun _ => rfl) (calm_runEvents es s)
@[simp] theorem runEvents_answer : (runEvents es s).link.answer = s.link.answer := eq_of_calm (·.link.answer) (fun _ => rfl) (calm_runEvents es s)
@[simp] theorem runEvents_isolation : (runEvents es s).link.isolation = s.link.isolation := eq_of_calm (·.link.isolation) (fun _ => rfl) (calm_runEvents es s)
@[simp] theorem runEvents_badCount : (runEvents es s).link.badCount = s.link.badCount := eq_of_calm (·.link.badCount) (fun _ => rfl) (calm_runEvents es s)
@[simp] theorem runEvents_peers : (runEvents es s).link.peers = s.link.peers := eq_of_calm (·.link.peers) (fun _ => rfl) (calm_runEvents es s)
@[simp] theorem runEvents_counter : (runEvents es s).pos.counter = s.pos.counter := eq_of_calm (·.pos.counter) (fun _ => rfl) (calm_runEvents es s)
@[simp] theorem runEvents_tally : (runEvents es s).pos.tally = s.pos.tally := eq_of_calm (·.pos.tally) (fun _ => rfl) (calm_runEvents es s)
@[simp] theorem runEvents_entryS : (runEvents es s).pos.entryS = s.pos.entryS := eq_of_calm (·.pos.entryS) (fun _ => rfl) (calm_runEvents es s)
@[simp] theorem runEvents_exitS : (runEvents es s).pos.exitS = s.pos.exitS := eq_of_calm (·.pos.exitS) (fun _ => rfl) (calm_runEvents es s)
@[simp] theorem runEvents_channels : (runEvents es s).heat.channels = s.heat.channels := eq_of_calm (·.heat.channels) (fun _ => rfl) (calm_runEvents es s)
@[simp] theorem runEvents_allot : (runEvents es s).allot = s.allot := eq_of_calm (·.allot) (fun _ => rfl) (calm_runEvents es s)

@[simp] theorem runEvents_expected : (runEvents es s).board.expected = s.board.expected := eq_of_calm (·.board.expected) (fun _ => rfl) (calm_runEvents es s)
@[simp] theorem runEvents_mainsAge : (runEvents es s).heat.mainsAge = s.heat.mainsAge := eq_of_calm (·.heat.mainsAge) (fun _ => rfl) (calm_runEvents es s)

@[simp] theorem judgeAdmission_loader : (judgeAdmission s).loader = s.loader := eq_of_gated (·.loader) (fun _ => rfl) (gated_judgeAdmission s)
@[simp] theorem judgeAdmission_answer : (judgeAdmission s).link.answer = s.link.answer := eq_of_gated (·.link.answer) (fun _ => rfl) (gated_judgeAdmission s)
@[simp] theorem judgeAdmission_isolation : (judgeAdmission s).link.isolation = s.link.isolation := eq_of_gated (·.link.isolation) (fun _ => rfl) (gated_judgeAdmission s)
@[simp] theorem judgeAdmission_peers : (judgeAdmission s).link.peers = s.link.peers := eq_of_gated (·.link.peers) (fun _ => rfl) (gated_judgeAdmission s)
@[simp] theorem judgeAdmission_counter : (judgeAdmission s).pos.counter = s.pos.counter := eq_of_gated (·.pos.counter) (fun _ => rfl) (gated_judgeAdmission s)
@[simp] theorem judgeAdmission_channels : (judgeAdmission s).heat.channels = s.heat.channels := eq_of_gated (·.heat.channels) (fun _ => rfl) (gated_judgeAdmission s)
@[simp] theorem judgeAdmission_allot : (judgeAdmission s).allot = s.allot := eq_of_gated (·.allot) (fun _ => rfl) (gated_judgeAdmission s)

end

end Sys2Proof.Machine
end

section
/-! Receiving a frame (R4 to R6, R13, R14): who takes it, who answers it, and what each frame reaches. -/
namespace Sys2Proof.Machine

section
variable (n : Nat) (s : State)

@[simp] theorem setIsolation_pins : (setIsolation n s).pins = s.pins := by obtain ⟨_, _, _, _, h⟩ := setIsolation_eq n s; rw [h]
@[simp] theorem setIsolation_pos : (setIsolation n s).pos = s.pos := by obtain ⟨_, _, _, _, h⟩ := setIsolation_eq n s; rw [h]
@[simp] theorem setIsolation_board : (setIsolation n s).board = s.board := by obtain ⟨_, _, _, _, h⟩ := setIsolation_eq n s; rw [h]
@[simp] theorem setIsolation_recipe : (setIsolation n s).recipe = s.recipe := by obtain ⟨_, _, _, _, h⟩ := setIsolation_eq n s; rw [h]
@[simp] theorem setIsolation_heat : (setIsolation n s).heat = s.heat := by obtain ⟨_, _, _, _, h⟩ := setIsolation_eq n s; rw [h]
@[simp] theorem setIsolation_allot : (setIsolation n s).allot = s.allot := by obtain ⟨_, _, _, _, h⟩ := setIsolation_eq n s; rw [h]
@[simp] theorem setIsolation_pot : (setIsolation n s).pot = s.pot := by obtain ⟨_, _, _, _, h⟩ := setIsolation_eq n s; rw [h]
@[simp] theorem setIsolation_alarm : (setIsolation n s).alarm = s.alarm := by obtain ⟨_, _, _, _, h⟩ := setIsolation_eq n s; rw [h]
@[simp] theorem setIsolation_expiries : (setIsolation n s).expiries = s.expiries := by obtain ⟨_, _, _, _, h⟩ := setIsolation_eq n s; rw [h]
@[simp] theorem setIsolation_link : (setIsolation n s).link = { s.link with isolation := n } := by
  obtain ⟨_, _, _, _, h⟩ := setIsolation_eq n s; rw [h]
@[simp] theorem setIsolation_series : (setIsolation n s).flux.series = s.flux.series := by
  obtain ⟨_, _, _, _, h⟩ := setIsolation_eq n s; rw [h]
@[simp] theorem setIsolation_measured : (setIsolation n s).fume.measured = s.fume.measured := by
  obtain ⟨_, _, _, _, h⟩ := setIsolation_eq n s; rw [h]
@[simp] theorem setIsolation_cfg : (setIsolation n s).cfg = s.cfg := by simp [State.cfg]
@[simp] theorem setIsolation_me : (setIsolation n s).me = s.me := by simp [State.me]

end

@[simp] theorem driveAnswer_link (a : Answer) (s : State) : (driveAnswer a s).link = { s.link with answer := a } := rfl

@[simp] theorem channel_setIsolation (n : Nat) (s : State) (k : Nat) : channel (setIsolation n s) k = channel s k := by
  simp [channel]

/-! ### Who takes a frame and who answers it -/

variable {k : Kind} {f : Rx} {s : State}

theorem takesFrame_setIsolation (n : Nat) (k : Kind) (f : Rx) (s : State) :
    takesFrame k f (setIsolation n s) = takesFrame k f s := by simp [takesFrame]

theorem drives_setIsolation (n : Nat) (f : Rx) (s : State) : drives f (setIsolation n s) = drives f s := by
  simp [drives]

theorem drives_iff : drives f s = true ↔ f.target = allTarget ∨ f.target = toStation s.me := by simp [drives]

/-- A valid frame of another node that is taken (R5). -/
theorem receive_taken (ha : s.active = true) (hl : k.lengthOk f.body.length = true) (hm : f.src.toNat ≠ s.me)
    (ht : takesFrame k f s = true) : receive k f s =
      driveAnswer (if f.target = allTarget ∨ f.target = toStation s.me then
        (handleFrame k f (setIsolation 0 s)).1 else .none) (handleFrame k f (setIsolation 0 s)).2 := by
  simp only [receive, ha, if_true, hl, receiveValid, if_neg hm, receiveOther, takesFrame_setIsolation, ht,
    drives_setIsolation, drives_iff]

/-- A valid frame of another node that is not taken (R5, R6). -/
theorem receive_not_taken (ha : s.active = true) (hl : k.lengthOk f.body.length = true) (hm : f.src.toNat ≠ s.me)
    (ht : takesFrame k f s = false) : receive k f s =
      driveAnswer (if f.target = allTarget ∨ f.target = toStation s.me then .refuse else .none)
        (setIsolation 0 s) := by
  simp [receive, ha, hl, receiveValid, hm, receiveOther, takesFrame_setIsolation, ht, drives_setIsolation, drives_iff]

theorem takesFrame_all (hk : k.panelOnly = false) (hf : k.form = .all) (ht : f.target = allTarget) :
    takesFrame k f s = true := by simp [takesFrame, hk, hf, ht]

theorem takesFrame_panel (hp : f.src.toNat = s.cfg.panel) (hf : k.form = .all) (ht : f.target = allTarget) :
    takesFrame k f s = true := by simp [takesFrame, hp, hf, ht]

theorem takesFrame_one (hp : k.panelOnly = false ∨ f.src.toNat = s.cfg.panel) (hf : k.form = .one)
    (ht : f.target = toStation s.me) : takesFrame k f s = true := by
  rcases hp with hp | hp <;> simp [takesFrame, hp, hf, ht]

/-- The target form or the source keeps the frame from being taken (R5, R6). -/
theorem takesFrame_eq_false (h : (k.panelOnly = true ∧ f.src.toNat ≠ s.cfg.panel) ∨
    (k.form = .all ∧ f.target ≠ allTarget) ∨ (k.form = .one ∧ f.target ≠ toStation s.me) ∨ k.form = .panel ∨
    (k.form = .allOrOne ∧ f.target ≠ allTarget ∧ 16 ≤ f.target.toNat)) : takesFrame k f s = false := by
  rcases h with ⟨hk, hp⟩ | ⟨hk, ht⟩ | ⟨hk, ht⟩ | hk | ⟨hk, ht, hn⟩
  · simp [takesFrame, hk, hp]
  · simp [takesFrame, hk, ht]
  · simp [takesFrame, hk, ht]
  · simp [takesFrame, hk]
  · simp [takesFrame, hk, ht, hn]

/-- A frame of a kind that any station sends to all, heard by all, is answered by its owning block. -/
theorem receive_heardByAll (h : heardByAll k f s) (hk : k.panelOnly = false) (hf : k.form = .all) : receive k f s =
    driveAnswer (handleFrame k f (setIsolation 0 s)).1 (handleFrame k f (setIsolation 0 s)).2 := by
  obtain ⟨ha, hl, hm, ht⟩ := h
  rw [receive_taken ha hl hm (takesFrame_all hk hf ht), if_pos (.inl ht)]

theorem receive_panelToAll (h : panelToAll k f s) (hf : k.form = .all) : receive k f s =
    driveAnswer (handleFrame k f (setIsolation 0 s)).1 (handleFrame k f (setIsolation 0 s)).2 := by
  obtain ⟨⟨ha, hl, hm, ht⟩, hp⟩ := h
  rw [receive_taken ha hl hm (takesFrame_panel hp hf ht), if_pos (.inl ht)]

theorem receive_aimedHere (h : aimedHere k f s) (hp : k.panelOnly = false ∨ f.src.toNat = s.cfg.panel)
    (hf : k.form = .one) : receive k f s =
    driveAnswer (handleFrame k f (setIsolation 0 s)).1 (handleFrame k f (setIsolation 0 s)).2 := by
  obtain ⟨ha, hl, hm, ht⟩ := h
  rw [receive_taken ha hl hm (takesFrame_one hp hf ht), if_pos (.inr ht)]

/-- A valid frame with this station's own number (R14). -/
theorem receive_own (ha : s.active = true) (hl : k.lengthOk f.body.length = true) (hm : f.src.toNat = s.me) :
    receive k f s = driveAnswer .none (appearance aNumberConflict (setIsolation 0 s)) := by
  simp only [receive, ha, if_true, hl, receiveValid, if_pos hm]

/-- What a frame not taken leaves as it was at the end of its command. -/
theorem untaken_kept (a : Answer) (s : State) :
    let t := finish (driveAnswer a (setIsolation 0 s))
    t.link.answer = a ∧ t.link.isolation = 0 ∧ t.link.badCount = s.link.badCount ∧ t.link.peers = s.link.peers ∧
      t.board.expected = s.board.expected ∧ t.allot = s.allot ∧ t.pos.counter = s.pos.counter ∧
      t.loader = s.loader := by simp

/-- A statement by cases holds when each of its cases does. -/
theorem ite_of_cases {p a b : Prop} [Decidable p] (ha : p → a) (hb : ¬p → b) : if p then a else b := by
  split
  · exact ha ‹p›
  · exact hb ‹¬p›

end Sys2Proof.Machine
end

section
open Sys2Proof Sys2Proof.Machine

/-- Settles O12. -/
theorem framesNotActedOn : Obligations.FramesNotActedOn := by
  refine ⟨⟨fun f s ha hf => ?_, fun k f s ha hl hm hp => ?_⟩, fun c k f s hc ha hl hm hk => ?_⟩
  · simp [exec, execBadFrame, ha, hf, countBad]
  · refine ⟨_, rfl, ?_⟩
    rw [receive_own ha hl hm]
    refine ⟨by simp, by simp, ?_, by simp, by simp, by simp, by simp, by simp, by simp⟩
    have never (x : State) : dueFlag x 57 = none := rfl
    refine standing_finish (by decide) (by decide) (by simp [never]) ?_
    rw [driveAnswer_alarm, appearance_alarm]
    exact AlarmUnit.standing_appear (by simp [hp, aNumberConflict]) (.inr (.inl (by decide)))
  · have e : exec c s = .next (finish (driveAnswer
        (if f.target = allTarget ∨ f.target = toStation s.me then .refuse else .none) (setIsolation 0 s))) := by
      rw [← receive_not_taken ha hl hm (takesFrame_eq_false hk)]
      rcases hc with rfl | rfl <;> rfl
    exact ⟨_, e, untaken_kept _ s⟩

/-- Settles O13. -/
theorem alarmFramesApplied : Obligations.AlarmFramesApplied := by
  refine ⟨fun f s h => ?_, fun f s h => ?_, fun f s h => ?_⟩
  · have e : exec (.alarmRaise f) s = .next (finish (receive .alarmRaise f s)) := rfl
    have hc : (58 ≤ byteAt f.body 0) = (57 < byteAt f.body 0) := rfl
    simp only [e, receive_heardByAll h rfl rfl, handleFrame, takeAlarmRaise, setIsolation_cfg, hc]
    split <;> rfl
  · have e : exec (.alarmAck f) s = .next (finish (receive .alarmAck f s)) := rfl
    have refused : ackRefused s.cfg.panel f.body = true ↔ byteAt f.body 0 = s.cfg.panel ∨
        ∃ c, ackCode f.body = some c ∧ 58 ≤ c ∧ c ≤ 63 := by
      unfold ackRefused
      cases ackCode f.body <;> simp [inLimits]
    rw [e, receive_heardByAll h rfl rfl]
    simp only [handleFrame, takeAlarmAck, setIsolation_cfg]
    refine ite_of_cases (fun hr => ?_) fun hr => ?_
    · rw [if_pos (refused.mpr hr)]
    · rw [if_neg (mt refused.mp hr)]; rfl
  · have e : exec (.alarmClear f) s = .next (finish (receive .alarmClear f s)) := rfl
    simp only [e, receive_heardByAll h rfl rfl, handleFrame, takeAlarmClear, setIsolation_cfg]
    split <;> rfl

end

section
/-! What STATUS, SNAPSHOT, RECIPE WITHDRAW and the board notices reach (R16, R44, R47 to R50, R91, R200). -/
namespace Sys2Proof.Machine

/-! ### The fan and the adopted flag -/

theorem formFan_eq (s : State) : ∃ f, formFan s = { s with fume := f } := by
  unfold formFan; split <;> exact ⟨_, rfl⟩

theorem formAdopted_eq (s : State) : ∃ nz f, formAdopted s =
    { s with flux := { s.flux with nozzle := nz }, fume := f } := by
  unfold formAdopted provenChanged cutPulse
  simp only []
  repeat' split
  all_goals exact ⟨_, _, rfl⟩

section
variable (s : State)

@[simp] theorem formFan_loader : (formFan s).loader = s.loader := by obtain ⟨_, h⟩ := formFan_eq s; rw [h]
@[simp] theorem formFan_link : (formFan s).link = s.link := by obtain ⟨_, h⟩ := formFan_eq s; rw [h]
@[simp] theorem formFan_pos : (formFan s).pos = s.pos := by obtain ⟨_, h⟩ := formFan_eq s; rw [h]
@[simp] theorem formFan_board : (formFan s).board = s.board := by obtain ⟨_, h⟩ := formFan_eq s; rw [h]
@[simp] theorem formFan_heat : (formFan s).heat = s.heat := by obtain ⟨_, h⟩ := formFan_eq s; rw [h]
@[simp] theorem formFan_allot : (formFan s).allot = s.allot := by obtain ⟨_, h⟩ := formFan_eq s; rw [h]
@[simp] theorem formFan_alarm : (formFan s).alarm = s.alarm := by obtain ⟨_, h⟩ := formFan_eq s; rw [h]
@[simp] theorem formFan_cfg : (formFan s).cfg = s.cfg := by simp [State.cfg]
@[simp] theorem formFan_me : (formFan s).me = s.me := by simp [State.me]

@[simp] theorem formAdopted_loader : (formAdopted s).loader = s.loader := by obtain ⟨_, _, h⟩ := formAdopted_eq s; rw [h]
@[simp] theorem formAdopted_link : (formAdopted s).link = s.link := by obtain ⟨_, _, h⟩ := formAdopted_eq s; rw [h]
@[simp] theorem formAdopted_pos : (formAdopted s).pos = s.pos := by obtain ⟨_, _, h⟩ := formAdopted_eq s; rw [h]
@[simp] theorem formAdopted_board : (formAdopted s).board = s.board := by obtain ⟨_, _, h⟩ := formAdopted_eq s; rw [h]
@[simp] theorem formAdopted_alarm : (formAdopted s).alarm = s.alarm := by obtain ⟨_, _, h⟩ := formAdopted_eq s; rw [h]
@[simp] theorem formAdopted_cfg : (formAdopted s).cfg = s.cfg := by simp [State.cfg]
@[simp] theorem formAdopted_me : (formAdopted s).me = s.me := by simp [State.me]

end

/-! ### The line alarm list at a STATUS -/

variable {a : AlarmUnit}

theorem incomplete_strike (p : LineEntry → Bool) :
    (a.strike p).incomplete = true ↔ a.incomplete = true ∧ (a.list = [] ∨ (a.strike p).list ≠ []) := by
  simp only [AlarmUnit.strike]
  cases a.list <;> simp

theorem list_alignList (n : Nat) (st : StatusFields) (a : AlarmUnit) :
    (alignList n st a).list = a.list.filter fun e => !(e.origin == n &&
      (if e.inService then st.station == .configFault || st.startMark else st.pendingCount == 0)) := by
  unfold alignList
  simp only []
  have struck : (if st.pendingCount = 0 then a.strike fun e => e.origin == n && !e.inService else a).list =
      a.list.filter fun e => !(e.origin == n && !e.inService && st.pendingCount == 0) := by
    split
    · rename_i h; simp [AlarmUnit.strike, h]
    · rename_i h; exact (List.filter_eq_self.mpr fun e _ => by simp [beq_false_of_ne h]).symm
  have eq (x : LineEntry) : (!(x.origin == n && (if x.inService then st.station == .configFault || st.startMark
      else st.pendingCount == 0))) = (!(x.origin == n && !x.inService && st.pendingCount == 0) &&
        !(x.origin == n && x.inService && (st.station == .configFault || st.startMark))) := by
    cases x.inService <;> simp
  split
  · rename_i h
    have hb : (st.station == .configFault || st.startMark) = true := by simpa using h
    rw [AlarmUnit.strike, struck, List.filter_filter]
    exact List.filter_congr fun x _ => by rw [eq, hb]; simp [Bool.and_comm]
  · rename_i h
    have hb : (st.station == .configFault || st.startMark) = false := by simpa using h
    rw [struck]
    exact List.filter_congr fun x _ => by rw [eq, hb]; simp

theorem incomplete_alignList (n : Nat) (st : StatusFields) (a : AlarmUnit) : (alignList n st a).incomplete = true ↔
    a.incomplete = true ∧ (a.list = [] ∨ (alignList n st a).list ≠ []) := by
  unfold alignList
  simp only []
  split <;> split
  · rw [incomplete_strike, incomplete_strike]
    simp only [AlarmUnit.strike]
    cases a.list <;> grind
  all_goals grind [incomplete_strike]

/-! ### Directory entries -/

variable {st : RecipeStore}

@[simp] theorem entry_setEntry (i : Nat) (e : Option DirEntry) (h : i < st.dir.length) :
    (st.setEntry i e).entry i = e := by
  simp [RecipeStore.entry, RecipeStore.setEntry, List.getD_eq_getElem?_getD, h]

theorem entry_setEntry_ne {i j : Nat} (e : Option DirEntry) (h : j ≠ i) : (st.setEntry i e).entry j = st.entry j := by
  simp [RecipeStore.entry, RecipeStore.setEntry, List.getD_eq_getElem?_getD, h.symm]

theorem lt_of_entry {i : Nat} {e : DirEntry} (h : st.entry i = some e) : i < st.dir.length := by
  refine Classical.byContradiction fun g => ?_
  simp [RecipeStore.entry, List.getD_eq_getElem?_getD, Nat.le_of_not_lt g] at h

@[simp] theorem entry_freeSlots (l : List Nat) (i : Nat) : (st.freeSlots l).entry i = st.entry i := rfl

@[simp] theorem dir_freeSlots (l : List Nat) : (st.freeSlots l).dir = st.dir := rfl

theorem entry_free (i : Nat) (e : DirEntry) : (st.free i e).entry i = none := by
  unfold RecipeStore.free
  by_cases h : i < st.dir.length
  · exact entry_setEntry _ _ h
  · simp [RecipeStore.entry, RecipeStore.setEntry, List.getD_eq_getElem?_getD, Nat.le_of_not_lt h]

theorem entry_free_ne {i j : Nat} (e : DirEntry) (h : j ≠ i) : (st.free i e).entry j = st.entry j :=
  entry_setEntry_ne _ h

theorem getD_foldl_set_none (l : List Nat) (a : List (Option Page)) (n : Nat) :
    (l.foldl (fun a n => a.set n none) a).getD n none = if n ∈ l then none else a.getD n none := by
  induction l generalizing a with
  | nil => simp
  | cons m l ih =>
    rw [List.foldl_cons, ih]
    by_cases hn : n ∈ l
    · simp [hn]
    · by_cases hm : n = m
      · subst hm
        simp only [hn, if_false, List.mem_cons, true_or, if_true, List.getD_eq_getElem?_getD, List.getElem?_set]
        split <;> simp
      · simp [hn, hm, List.getD_eq_getElem?_getD, Ne.symm hm]

theorem slot_free (i : Nat) (e : DirEntry) (n : Nat) :
    (st.free i e).slots.getD n none = if n ∈ e.slots then none else st.slots.getD n none :=
  getD_foldl_set_none _ _ _

theorem retire_none {p : Nat} (h : st.liveEntry p = none) : st.retire p = st := by simp [RecipeStore.retire, h]

theorem retire_live {p i : Nat} {e : DirEntry} (h : st.liveEntry p = some i) (he : st.entry i = some e) :
    st.retire p = if e.count = 0 then st.free i e else st.setEntry i (some { e with live := false }) := by
  simp [RecipeStore.retire, h, he]

theorem isServiceCode_of_productAt {b : List Byte} {i c : Nat} (h : productAt b i = some c) :
    isServiceCode c = true ↔ 1048560 ≤ c := by
  have : c ≤ 1048575 := by
    unfold productAt at h
    split at h <;> simp_all
  simp [isServiceCode, this]

/-! ### The snapshot -/

theorem latchValues_setIsolation (m n : Nat) (s : State) : latchValues n (setIsolation m s) = latchValues n s := by
  simp [latchValues]

end Sys2Proof.Machine
end

section
open Sys2Proof Sys2Proof.Machine

/-- Settles O20. -/
theorem recipeWithdrawRetires : Obligations.RecipeWithdrawRetires := by
  intro f s c h hc
  have e : exec (.recipeWithdraw f) s = .next (finish (receive .recipeWithdraw f s)) := rfl
  have service := isServiceCode_of_productAt hc
  simp only [e, receive_panelToAll h rfl, handleFrame, takeRecipeWithdraw, hc]
  refine ⟨fun hs => ?_, fun hs hl => ?_, fun i d hs hl hd hn => ?_, fun i d hs hl hd hn => ?_⟩
  · rw [if_pos (service.mpr hs)]
  · rw [if_neg (by rw [service]; omega)]
    rw [retire_none (by rw [setIsolation_recipe]; exact hl)]
  · rw [if_neg (by rw [service]; omega)]
    rw [setIsolation_recipe, retire_live hl hd, if_neg (Nat.pos_iff_ne_zero.mp hn)]
  · rw [if_neg (by rw [service]; omega)]
    refine ⟨by rw [setIsolation_recipe, retire_live hl hd, if_pos hn], entry_free i d, fun n hm => ?_, fun n hm => ?_,
      fun j hj => entry_free_ne d hj⟩
    · rw [slot_free, if_pos hm]
    · rw [slot_free, if_neg hm]

/-- Settles O22. -/
theorem snapshotLatchedOnce : Obligations.SnapshotLatchedOnce := by
  intro f s h
  have e : exec (.snapshot f) s = .next (finish (receive .snapshot f s)) := rfl
  simp only [e, receive_panelToAll h rfl, handleFrame, takeSnapshot, latchValues_setIsolation, setIsolation_pos]
  refine ⟨fun hs => ?_, fun hs => ?_⟩
  · rw [if_pos (Option.isSome_iff_ne_none.mpr hs)]
  · refine ⟨latchValues (byteAt f.body 0) s, rfl, rfl, fun k hk hu c hc => ?_, fun k hk hu => ?_, rfl, rfl, ?_⟩
    · simp [latchValues, hk, hu, hc]
    · simp [latchValues, hk, hu]
    · simp [hs]

/-- Settles O21. -/
theorem statusReplacesThePeer : Obligations.StatusReplacesThePeer := by
  have e (f : Rx) (s : State) : exec (.status f) s = .next (finish (receive .status f s)) := rfl
  refine ⟨fun f s h => ⟨_, e f s, ?_⟩, fun f s h => ?_, fun n st a => ⟨list_alignList n st a, ?_, ?_, ?_⟩⟩
  · rw [receive_heardByAll h rfl rfl]
    simp only [handleFrame, takeStatus]
    refine ⟨by simp, ?_, ?_, ?_, ?_⟩ <;> repeat' split
    all_goals simp
  · rw [e, receive_heardByAll h rfl rfl]
    simp only [handleFrame, takeStatus, setIsolation_cfg]
  · unfold alignList; simp only []; split <;> split <;> rfl
  · unfold alignList; simp only []; split <;> split <;> rfl
  · rw [incomplete_alignList, list_alignList]

end

section
/-! Removal of a record, the answers to an offer, and the station's own frames on the wire (R7 to R13, R54, R66). -/
namespace Sys2Proof.Machine

/-! ### What every use of the transmit queue keeps, the end of a command keeps -/

/-- A predicate of the queue and the snapshot latch that queueing a frame keeps. -/
structure QueueOnly (P : State → Prop) : Prop where
  enqueue : ∀ b x y s, P s → P (enqueue b x y s)
  congr : ∀ {s t : State}, P s → t.link.queue = s.link.queue → t.pos.snapshot = s.pos.snapshot → P t

section
variable {P : State → Prop} (q : QueueOnly P)
include q

theorem QueueOnly.removeRecord (t : Tag) {s : State} (h : P s) : P (removeRecord t s) := by
  cases e : findRecord t s.board.queue with
  | none => rw [removeRecord_of_none e]; exact h
  | some r => obtain ⟨_, _, _, _, _, _, e⟩ := removeRecord_eq e; rw [e]; exact q.congr h rfl rfl

theorem QueueOnly.removeWithExit (t : Tag) (c : ExitCause) {s : State} (h : P s) : P (removeWithExit t c s) := by
  unfold Machine.removeWithExit
  split
  · exact h
  · exact q.enqueue _ _ _ _ (q.removeRecord t h)

theorem QueueOnly.answerOffer (t : Tag) (a : Answer) {s : State} (h : P s) : P (answerOffer t a s) := by
  have taken (f : Handoff) : P { s with board := { s.board with handoff := f } } := q.congr h rfl rfl
  unfold Machine.answerOffer
  split
  · exact h
  · cases a <;> simp only []
    case refuse => exact q.congr (q.removeWithExit t .refused (taken { s.board.handoff with
      outstanding := false, last := some .refuse })) rfl rfl
    case accept =>
      split
      · exact q.removeRecord t (taken _)
      · exact q.congr h rfl rfl
    case defer =>
      split
      · exact q.removeWithExit t _ (taken _)
      · exact q.congr h rfl rfl
    case none =>
      split
      · exact q.removeWithExit t _ (taken _)
      · exact q.congr h rfl rfl

theorem QueueOnly.deliverDropped {s : State} (h : P s) : P (deliverDropped s) := by
  have fold : ∀ (l : List Tag) (x : State), P x → P (l.foldl (fun s t => Machine.answerOffer t .none s) x) := by
    intro l
    induction l with
    | nil => exact fun _ h => h
    | cons t ts ih => exact fun x h => ih _ (q.answerOffer t _ h)
  exact fold _ _ (q.congr h rfl rfl)

theorem QueueOnly.rederive (k : Nat) {s : State} (h : P s) : P (rederive k s) := by
  unfold Machine.rederive
  split
  · exact h
  · simp only []
    split <;> exact q.congr h rfl rfl

theorem QueueOnly.leaveInService (c : Nat) {s : State} (h : P s) : P (leaveInService c s) := by
  have cleared : P (clearCode c false s) := q.enqueue _ _ _ _ (q.congr h rfl rfl)
  unfold Machine.leaveInService
  simp only []
  split
  · exact q.rederive _ (q.congr cleared rfl rfl)
  · exact cleared

theorem QueueOnly.alarm {s : State} (a : AlarmUnit) (h : P s) : P { s with alarm := a } := q.congr h rfl rfl

theorem QueueOnly.remark (c : Nat) (g : Bool) {s : State} (h : P s) : P (remark c g s) :=
  q.enqueue _ _ _ _ (q.alarm _ h)

theorem QueueOnly.queueStatus (m : Bool) {s : State} (h : P s) : P (queueStatus m s) := by
  unfold Machine.queueStatus
  simp only []
  obtain ⟨e, he⟩ := overtake_eq .statusPeriod { Machine.enqueue .link allTarget (.status (gatherStatus m (computeBlockers s)))
    (computeBlockers s) with link := { (Machine.enqueue .link allTarget (.status (gatherStatus m (computeBlockers s)))
      (computeBlockers s)).link with statusAge := some 0 } }
  rw [he]
  exact q.congr (q.enqueue _ _ _ _ (q.congr (t := computeBlockers s) h rfl rfl)) rfl rfl

theorem QueueOnly.reportLive (c : Nat) (b : Bool) {s : State} (h : P s) : P (reportLive c b s) := by
  unfold Machine.reportLive
  split
  · exact h
  · split
    · unfold conditionStarts
      simp only []
      split
      · exact q.alarm _ h
      · exact q.remark _ _ (q.alarm _ h)
      all_goals exact q.alarm _ h
    · unfold conditionEnds
      simp only []
      split
      · exact q.alarm _ h
      · exact q.remark _ _ (q.alarm _ h)
      · exact q.leaveInService _ (q.alarm _ h)
      all_goals exact q.alarm _ h

theorem QueueOnly.reportRecovery (c : Nat) (b : Bool) {s : State} (h : P s) : P (reportRecovery c b s) := by
  unfold Machine.reportRecovery
  split
  · exact h
  · split
    · exact q.alarm _ h
    · simp only []
      split
      · split <;> exact q.alarm _ h
      · exact q.leaveInService _ (q.alarm _ h)
      all_goals exact q.alarm _ h

theorem QueueOnly.reportCode (c : Nat) {s : State} (h : P s) : P (reportCode c s) := by
  unfold Machine.reportCode
  split
  · exact q.reportLive _ _ h
  · split
    · exact q.reportRecovery _ _ h
    · exact h

theorem QueueOnly.announcePick (c : Nat) {s : State} (h : P s) : P (announcePick c s) := by
  have announced (i : Bool) {x : State} (hx : P x) : P (announce c i false x) := q.enqueue _ _ _ _ (q.alarm _ hx)
  have joined {x : State} (hx : P x) : P (joinInService c x) := by
    unfold joinInService; simp only []; split <;> exact q.congr hx rfl rfl
  have settled {x : State} (hx : P x) : P (settleInService c x) := by
    unfold settleInService
    split
    · exact hx
    · split
      · exact q.leaveInService _ hx
      · split
        · exact q.leaveInService _ hx
        · exact hx
      · exact hx
  unfold Machine.announcePick
  simp only []
  split
  · exact settled (announced _ (joined (q.alarm _ h)))
  · exact q.queueStatus _ (announced _ (q.alarm (({ s.alarm with
      rot := s.alarm.rot.set (levelOf c) ((c + 1) % 64) } : AlarmUnit).move c (.pending false)) h))

theorem QueueOnly.finish {s : State} (h : P s) : P (finish s) :=
  finish_induction (fun _ h => q.deliverDropped h) (fun c _ h => q.reportCode c h) (fun c _ _ h => q.announcePick c h) h

end

theorem mem_replaceWaiting {e x : TxEntry} {q q' : List TxEntry} (h : replaceWaiting e q = some q') (hx : x ∈ q') :
    x ∈ q ∨ ∃ b, x = { e with body := b } := by
  induction q generalizing q' with
  | nil => simp [replaceWaiting] at h
  | cons y ys ih =>
    unfold replaceWaiting at h
    split at h
    · obtain rfl := Option.some.inj h
      rcases List.mem_cons.mp hx with rfl | hx
      · exact .inr ⟨_, rfl⟩
      · exact .inl (List.mem_cons_of_mem _ hx)
    · obtain ⟨l, hl, rfl⟩ := Option.map_eq_some_iff.mp h
      rcases List.mem_cons.mp hx with rfl | hx
      · exact .inl (List.mem_cons_self ..)
      · exact (ih hl hx).imp_left (List.mem_cons_of_mem _)

/-- What stands in the queue after a frame is placed stood there before, or is that frame. -/
theorem mem_placeFrame {e x : TxEntry} {q : List TxEntry} (h : x ∈ (placeFrame q e).1) :
    x ∈ q ∨ ∃ b, x = { e with body := b } := by
  have inserted {l : List TxEntry} (hl : ∀ y ∈ l, y ∈ q) (hx : x ∈ insertByKey e l) :
      x ∈ q ∨ ∃ b, x = { e with body := b } :=
    (mem_insertByKey.mp hx).elim (fun h => .inr ⟨e.body, h⟩) fun h => .inl (hl x h)
  unfold placeFrame at h
  split at h
  · rename_i q' hq
    split at hq
    · exact mem_replaceWaiting hq h
    · exact absurd hq nofun
  · split at h
    · exact inserted (fun _ hy => hy) h
    · split at h
      · exact .inl h
      · split at h
        · exact .inl h
        · split at h
          · exact inserted (fun _ hy => List.mem_of_mem_eraseIdx hy) h
          · exact .inl h

theorem queueOnly_waiting : QueueOnly fun s => ∀ x ∈ s.link.queue, x.inTx = false where
  enqueue b t y s h x hx := by
    rw [enqueue_queue] at hx
    rcases mem_placeFrame hx with hx | ⟨_, rfl⟩
    · exact h x hx
    · rfl
  congr h hq _ := by rw [hq]; exact h

theorem queueOnly_unlatched : QueueOnly fun s => s.pos.snapshot = none where
  enqueue b t y s h := by
    unfold Machine.enqueue
    simp only []
    split
    · exact h
    · unfold dropFrame
      split
      · exact h
      · rfl
      · exact h
  congr h _ hs := by rw [hs]; exact h

theorem QueueOnly.giveAnswer {P : State → Prop} (q : QueueOnly P) (hq : ∀ s p, P s → P { s with pos := p }) (e : TxEntry)
    (a : Answer) {s : State} (h : P s) : P (giveAnswer e a s) := by
  unfold Machine.giveAnswer
  split
  · exact h
  · split
    · exact q.answerOffer _ _ h
    · exact hq _ _ h
    all_goals exact h

theorem inTransmission_append {pre post : List TxEntry} {e : TxEntry} (he : e.inTx = true)
    (h : ∀ x ∈ pre, x.inTx = false) : inTransmission (pre ++ e :: post) = some e := by
  unfold inTransmission
  rw [List.find?_append, List.find?_eq_none.mpr fun x hx => by simp [h x hx]]
  simp [he]

/-! ### The removal of a record, block by block -/

theorem withoutEntry_of_other {t : Tag} {k : EventKind} {q : Nat} {l : List Event} (h : ∀ e ∈ l, e.tag ≠ t) :
    withoutEntry t k q l = l :=
  List.filter_eq_self.mpr fun e he => by simp [h e he]

/-- The removal of a series' board closes the series, which takes no entry of another board off the schedule. -/
theorem fluxRemoval_schedule {t : Tag} {s : State} (h : ∀ e ∈ s.pos.schedule, e.tag ≠ t) :
    (fluxRemoval t s).pos.schedule = s.pos.schedule := by
  unfold fluxRemoval
  split
  · split
    · rename_i r _ hr
      subst hr
      unfold closeSeries
      split
      · rfl
      · split
        · rfl
        · rename_i hs _ _ hs' _
          obtain rfl := Option.some.inj (hs.symm.trans hs')
          exact withoutEntry_of_other h
    · rfl
  · rfl

theorem fluxRemoval_series {t : Tag} {s : State} {x : Series} (h : (fluxRemoval t s).flux.series = some x)
    (hx : x.tag = t) : x.drain ≠ none := by
  unfold fluxRemoval at h
  split at h
  · rename_i r hr
    split at h
    · rename_i ht
      unfold closeSeries at h
      simp only [hr] at h
      split at h
      · rename_i hd
        obtain rfl : r = x := Option.some.inj (hr.symm.trans h)
        exact fun e => by simp [e] at hd
      · obtain rfl := Option.some.inj h
        simp
    · rename_i ht
      exact absurd hx (by obtain rfl : r = x := Option.some.inj (hr.symm.trans h); exact ht)
  · rename_i hn
    rw [hn] at h; exact absurd h nofun

@[simp] theorem formRequired_pos (s : State) : (formRequired s).pos = s.pos := by
  obtain ⟨_, _, h⟩ := formRequired_eq s; rw [h]
@[simp] theorem formRequired_board (s : State) : (formRequired s).board = s.board := by
  obtain ⟨_, _, h⟩ := formRequired_eq s; rw [h]
@[simp] theorem formRequired_flux (s : State) : (formRequired s).flux = s.flux := by
  obtain ⟨_, _, h⟩ := formRequired_eq s; rw [h]
@[simp] theorem formRequired_loader (s : State) : (formRequired s).loader = s.loader := by
  obtain ⟨_, _, h⟩ := formRequired_eq s; rw [h]
@[simp] theorem formRequired_cfg (s : State) : (formRequired s).cfg = s.cfg := by simp [State.cfg]
@[simp] theorem potRemoval_pos (t : Tag) (s : State) : (potRemoval t s).pos = s.pos := by simp [potRemoval, touchPumps_eq]
@[simp] theorem potRemoval_flux (t : Tag) (s : State) : (potRemoval t s).flux = s.flux := by
  simp [potRemoval, touchPumps_eq]

theorem requiredNow_formRequired (s : State) : requiredNow (formRequired s) = requiredNow s := by simp [requiredNow]

/-- The required flow is the one that R174 gives once it is formed. -/
theorem formRequired_required {s : State} (h : s.cfg.functions.hood = true) :
    (formRequired s).fume.required = requiredNow s := by
  have restarted (x : State) : (riseRestarted x).fume = x.fume := by
    unfold riseRestarted
    split
    · obtain ⟨e, he⟩ := overtake_eq .riseDelay x; rw [he]
    · rfl
  unfold formRequired
  rw [if_pos h, restarted]
  simp only [Fume.retarget]
  repeat' split
  all_goals rfl

section
variable {t : Tag} {s : State} {r : BoardRecord} (h : findRecord t s.board.queue = some r)
include h

theorem removeRecord_schedule : (removeRecord t s).pos.schedule = s.pos.schedule.filter fun e => e.tag != t := by
  unfold removeRecord
  rw [h]
  simp only [formRequired_pos, potRemoval_pos]
  rw [fluxRemoval_schedule]
  · rfl
  · intro e he
    have := (List.mem_filter.mp he).2
    simpa using this

theorem removeRecord_series {x : Series} (hs : (removeRecord t s).flux.series = some x) (hx : x.tag = t) :
    x.drain ≠ none := by
  unfold removeRecord at hs
  rw [h] at hs
  simp only [formRequired_flux, potRemoval_flux] at hs
  exact fluxRemoval_series hs hx

theorem removeRecord_required (hh : s.cfg.functions.hood = true) :
    (removeRecord t s).fume.required = requiredNow (removeRecord t s) := by
  unfold removeRecord
  rw [h]
  simp only []
  rw [requiredNow_formRequired, formRequired_required]
  obtain ⟨_, _, _, e⟩ := fluxRemoval_eq t (releaseRef r.ref { s with
      board := { s.board with
        queue := s.board.queue.filter fun x => x.tag != t
        handoff := if s.board.handoff.bound = some t then Handoff.clear else s.board.handoff }
      pos := { s.pos with schedule := withoutTag t s.pos.schedule }
      heat := { s.heat with notes := s.heat.notes.filter fun n => n.tag != t } })
  rw [e, potRemoval, touchPumps_eq]
  exact hh

theorem removeRecord_handoff : (removeRecord t s).board.handoff =
    if s.board.handoff.bound = some t then Handoff.clear else s.board.handoff := by
  obtain ⟨_, _, _, _, _, _, e⟩ := removeRecord_eq h; rw [e]

theorem removeRecord_recipe : (removeRecord t s).recipe = s.recipe.release r.ref := by
  obtain ⟨_, _, _, _, _, _, e⟩ := removeRecord_eq h; rw [e]

end

theorem entry_release {i : Nat} {e : DirEntry} {st : RecipeStore} (h : st.entry i = some e) :
    (st.release (.entry i)).entry i =
      if e.live = false ∧ e.count ≤ 1 then none else some { e with count := e.count - 1 } := by
  simp only [RecipeStore.release, h]
  by_cases g : e.live = false ∧ e.count ≤ 1
  · rw [if_pos (by simp [g]), if_pos g, entry_free]
  · rw [if_neg (by simpa using g), if_neg g, entry_setEntry _ _ (lt_of_entry h)]

theorem release_of_no_entry {st : RecipeStore} {r : Ref} (h : ∀ i, r ≠ .entry i) : st.release r = st := by
  cases r with
  | entry i => exact absurd rfl (h i)
  | _ => rfl

/-! ### The answer to an offer -/

/-- The exit-bound board's handoff once its offer is answered (R66). -/
def answered (a : Answer) (s : State) : State :=
  { s with board := { s.board with handoff := { s.board.handoff with outstanding := false, last := some a } } }

theorem answerOffer_unbound {t : Tag} {s : State} (a : Answer) (h : s.board.handoff.bound ≠ some t) :
    answerOffer t a s = s := if_pos (by simpa using h)

section
variable {t : Tag} {s : State} (h : s.board.handoff.bound = some t)
include h

theorem answerOffer_accept : answerOffer t .accept s = if s.board.handoff.trailSeen then
    removeRecord t (answered .accept s) else mapRecord t (fun r => { r with state := .offered }) (answered .accept s) :=
  if_neg (by simp [h])

theorem answerOffer_refuse : answerOffer t .refuse s =
    appearance aHandoffRefused (removeWithExit t .refused (answered .refuse s)) := if_neg (by simp [h])

theorem answerOffer_unaccepted {a : Answer} (ha : a = .defer ∨ a = .none) : answerOffer t a s =
    if s.board.handoff.trailSeen then removeWithExit t .leftUnaccepted (answered a s)
    else mapRecord t (fun r => { r with state := .blocked }) (answered a s) := by
  rcases ha with rfl | rfl <;> exact if_neg (by simp [h])

end

theorem removeWithExit_of_find {t : Tag} {s : State} {r : BoardRecord} (c : ExitCause)
    (h : findRecord t s.board.queue = some r) :
    removeWithExit t c s = enqueue .tracker allTarget (.boardExit r c) (removeRecord t s) := by
  unfold removeWithExit; rw [h]

theorem findRecord_removeRecord (t : Tag) (s : State) : findRecord t (removeRecord t s).board.queue = none := by
  rw [removeRecord_queue]; exact findRecord_filter t _

theorem tag_of_findRecord {t : Tag} {q : List BoardRecord} {r : BoardRecord} (h : findRecord t q = some r) : r.tag = t := by
  simpa using List.find?_some h

theorem findRecord_mapRecord {t : Tag} {s : State} {r : BoardRecord} {f : BoardRecord → BoardRecord}
    (hf : ∀ r, (f r).tag = r.tag) (h : findRecord t s.board.queue = some r) :
    findRecord t (mapRecord t f s).board.queue = some (f r) := by
  unfold mapRecord
  rw [findRecord_updateRecord hf, h]; rfl

theorem steady_giveAnswer (e : TxEntry) (a : Answer) (s : State) : steady (giveAnswer e a s) = steady s := by
  unfold giveAnswer
  split
  · rfl
  · split
    · exact steady_answerOffer ..
    all_goals rfl

theorem getElem?_exitBytes (r : BoardRecord) (c : ExitCause) :
    (exitBytes r c)[6]? = some (BitVec.ofNat 8 (if c = .done then 1 else 2)) ∧
      (exitBytes r c)[7]? = some (BitVec.ofNat 8 c.code) := by
  cases hp : r.product <;> simp [exitBytes, productBytes, hp, beBytes, byte1]

end Sys2Proof.Machine
end

section
open Sys2Proof Sys2Proof.Machine

/-- Settles O11. -/
theorem removedRecordLeavesNothing : Obligations.RemovedRecordLeavesNothing := by
  intro t s r h
  have gone : ∀ e ∈ (removeRecord t s).pos.schedule, e.tag ≠ t := by
    rw [removeRecord_schedule h]
    intro e he
    simpa using (List.mem_filter.mp he).2
  refine ⟨removeRecord_queue t s, gone, ?_, ?_, ?_, fun x hs hx => removeRecord_series h hs hx, ?_, ?_, ?_, ?_, ?_,
    removeRecord_required h⟩
  · obtain ⟨_, _, _, _, _, _, e⟩ := removeRecord_eq h; simp [e]
  · obtain ⟨_, _, _, _, _, _, e⟩ := removeRecord_eq h; simp [e]
  · obtain ⟨_, _, _, _, _, _, e⟩ := removeRecord_eq h; simp [e]
  · rw [removeRecord_handoff h]
    split
    · simp [Handoff.clear]
    · assumption
  · intro hb; rw [removeRecord_handoff h, if_neg hb]
  · obtain ⟨_, _, _, _, _, _, e⟩ := removeRecord_eq h; rw [e]
  · intro hr; rw [removeRecord_recipe h, release_of_no_entry hr]
  · intro i e hr he; rw [removeRecord_recipe h, hr, entry_release he]

/-- Settles O10. -/
theorem offerAnswerActsOnTheRecord : Obligations.OfferAnswerActsOnTheRecord := by
  refine ⟨fun s t r hb hr => ?_, fun s t a => answerOffer_unbound a, fun r => ⟨?_, ?_, ?_, ?_⟩⟩
  · have found (a : Answer) : findRecord t (answered a s).board.queue = some r := hr
    have exited (a : Answer) (c : ExitCause) : removeWithExit t c (answered a s) =
        enqueue .tracker allTarget (.boardExit r c) (removeRecord t (answered a s)) := removeWithExit_of_find c (found a)
    have left (a : Answer) (c : ExitCause) : findRecord t (removeWithExit t c (answered a s)).board.queue = none := by
      rw [exited, enqueue_board, findRecord_removeRecord]
    have refused := answerOffer_refuse hb
    refine ⟨fun hn => ⟨?_, ?_, ?_, fun a ha => ?_⟩, fun hs => ⟨fun a => ?_, ?_, ?_, fun a ha => ?_⟩, ?_, fun hp => ?_,
      ?_, ?_, ?_⟩
    · rw [answerOffer_accept hb, if_neg (by simp [hn])]
      exact findRecord_mapRecord (fun _ => rfl) (found _)
    · rw [answerOffer_unaccepted hb (.inl rfl), if_neg (by simp [hn])]
      exact findRecord_mapRecord (fun _ => rfl) (found _)
    · rw [answerOffer_unaccepted hb (.inr rfl), if_neg (by simp [hn])]
      exact findRecord_mapRecord (fun _ => rfl) (found _)
    · cases a with
      | refuse => exact absurd rfl ha
      | accept => rw [answerOffer_accept hb, if_neg (by simp [hn])]; rfl
      | defer => rw [answerOffer_unaccepted hb (.inl rfl), if_neg (by simp [hn])]; rfl
      | none => rw [answerOffer_unaccepted hb (.inr rfl), if_neg (by simp [hn])]; rfl
    · cases a with
      | refuse => rw [refused]; exact left _ _
      | accept => rw [answerOffer_accept hb, if_pos hs]; exact findRecord_removeRecord ..
      | defer => rw [answerOffer_unaccepted hb (.inl rfl), if_pos hs]; exact left _ _
      | none => rw [answerOffer_unaccepted hb (.inr rfl), if_pos hs]; exact left _ _
    · rw [answerOffer_accept hb, if_pos hs]; rfl
    · rw [answerOffer_accept hb, if_pos hs, removeRecord_link]; rfl
    · rw [answerOffer_unaccepted hb ha, if_pos hs, exited]; rfl
    · rw [refused, exited]; rfl
    · rw [refused, appearance_alarm]
      refine AlarmUnit.standing_appear ?_ (.inr (.inl (by decide)))
      rw [removeWithExit_alarm]
      exact hp.symm ▸ (by decide : aHandoffRefused < 64)
    · rw [refused]; exact left _ _
    · rw [refused, appearance_board, exited, enqueue_board, removeRecord_handoff (found _),
        if_pos (show (answered .refuse s).board.handoff.bound = some t from hb)]; rfl
    · rw [refused, appearance_pos, exited, enqueue_schedule, removeRecord_schedule (found _)]; rfl
  · exact (getElem?_exitBytes r .refused).1
  · exact (getElem?_exitBytes r .refused).2
  · exact (getElem?_exitBytes r .leftUnaccepted).1
  · exact (getElem?_exitBytes r .leftUnaccepted).2

/-- Settles O8. -/
theorem framesStartAndReturnToWaiting : Obligations.FramesStartAndReturnToWaiting := by
  refine ⟨fun s e es hq hw => ?_, fun s pre e post hq he ho hw hk => ?_, fun s pre e l post hq he ho hr hl hk hw => ?_⟩
  · have none : (e :: es).any (·.inTx) = false := List.any_eq_false.mpr fun x hx => by simp [hw x hx]
    simp [exec, execWireFreeTransmitStart, hq, startFirst, none]
  · have alone : laterOf e (pre ++ e :: post) = none := by
      unfold laterOf
      rcases hk with hk | hk
      · simp [hk]
      · simp only [ite_eq_right_iff, List.find?_eq_none]
        intro _ x hx
        rcases List.mem_append.mp hx with hx | hx
        · simp [hk x (List.mem_append_left _ hx)]
        · rcases List.mem_cons.mp hx with rfl | hx
          · simp [he]
          · simp [hk x (List.mem_append_right _ hx)]
    have kept (l : List TxEntry) (hl : ∀ x ∈ l, x.inTx = false) :
        l.map (fun x => if x.inTx then returned e (pre ++ e :: post) else x) = l :=
      (List.map_congr_left fun x hx => by simp [hl x hx]).trans (List.map_id _)
    have returns : returnToWaiting e (pre ++ e :: post) = pre ++ { e with inTx := false } :: post := by
      unfold returnToWaiting
      rw [if_neg (by simp [ho]), List.filter_eq_self.mpr fun x _ => by simp [alone], List.map_append, List.map_cons,
        if_pos he, kept pre fun x hx => hw x (List.mem_append_left _ hx), kept post fun x hx => hw x (List.mem_append_right _ hx)]
      simp [returned, alone]
    simp only [exec, execContentionLost, hq, inTransmission_append he fun x hx => hw x (List.mem_append_left _ hx), returns]
  · have later : laterOf e (pre ++ e :: l :: post) = some l := by
      unfold laterOf
      rw [if_pos hr, List.find?_append, List.find?_eq_none.mpr]
      · simp [he, hl, hk]
      · intro x hx
        simp [(hw x (List.mem_append_left _ hx)).2]
    have kept (m : List TxEntry) (hm : ∀ x ∈ m, x.inTx = false ∧ x.key ≠ e.key) :
        (m.filter fun x => x.inTx || !(laterOf e (pre ++ e :: l :: post)).any fun _ => x.key == e.key).map
          (fun x => if x.inTx then returned e (pre ++ e :: l :: post) else x) = m := by
      rw [List.filter_eq_self.mpr fun x hx => by simp [later, (hm x hx).2]]
      exact (List.map_congr_left fun x hx => by simp [(hm x hx).1]).trans (List.map_id _)
    have returns : returnToWaiting e (pre ++ e :: l :: post) =
        pre ++ { l with body := e.body.replacing l.body } :: post := by
      unfold returnToWaiting
      rw [if_neg (by simp [ho]), List.filter_append, List.map_append,
        kept pre fun x hx => hw x (List.mem_append_left _ hx), List.filter_cons_of_pos (by simp [he]),
        List.filter_cons_of_neg (by simp [hl, hk, later]), List.map_cons,
        kept post fun x hx => hw x (List.mem_append_right _ hx)]
      simp [he, returned, later]
    simp only [exec, execContentionLost, hq,
      inTransmission_append he fun x hx => (hw x (List.mem_append_left _ hx)).1, returns]

/-- Settles O9. -/
theorem answerActsOnIsolation : Obligations.AnswerActsOnIsolation := by
  have read (b : SlotBits) (s : State) (e : TxEntry) (ha : s.active = true)
      (he : s.link.queue.find? (·.inTx) = some e) : exec (.answerSlotRead b) s = .next (finish (giveAnswer e (slotAnswer b)
        (setIsolation (if slotAnswer b = .none then min 8 (s.link.isolation + 1) else 0)
          { s with link := { s.link with queue := s.link.queue.filter fun x => !x.inTx } }))) := by
    simp only [exec, execAnswerSlotRead, inTransmission, he, ha, if_true, isolationAfter]
  refine ⟨fun b => rfl, fun a s => ?_, fun l => ?_, fun b s e ha he => ⟨_, read b s e ha he, ?_⟩, fun b s e ha he => ?_⟩
  · cases a <;> rfl
  · have third : (slotOf l).third = true ↔ .refuse ∈ l := by
      simp only [slotOf, List.any_eq_true]
      refine ⟨fun ⟨a, hm, h⟩ => ?_, fun h => ⟨_, h, rfl⟩⟩
      cases a <;> simp_all [Answer.slotBits]
    have second : (slotOf l).second = true ↔ .refuse ∈ l ∨ .defer ∈ l := by
      simp only [slotOf, List.any_eq_true]
      refine ⟨fun ⟨a, hm, h⟩ => ?_, fun h => h.elim (fun h => ⟨_, h, rfl⟩) fun h => ⟨_, h, rfl⟩⟩
      cases a <;> simp_all [Answer.slotBits]
    have first : (slotOf l).first = true ↔ .refuse ∈ l ∨ .defer ∈ l ∨ .accept ∈ l := by
      simp only [slotOf, List.any_eq_true]
      refine ⟨fun ⟨a, hm, h⟩ => ?_, fun h => h.elim (fun h => ⟨_, h, rfl⟩) fun h =>
        h.elim (fun h => ⟨_, h, rfl⟩) fun h => ⟨_, h, rfl⟩⟩
      cases a <;> simp_all [Answer.slotBits]
    simp only [slotAnswer, third, second, first]
    by_cases hr : .refuse ∈ l <;> by_cases hd : .defer ∈ l <;> simp [hr, hd]
  · have kept {α : Type} (f : State → α) (hf : ∀ x, f (steady x) = f x) (u : State) :
        f (finish (giveAnswer e (slotAnswer b) u)) = f u := by
      rw [finish_of_steady f hf, ← hf, steady_giveAnswer, hf]
    have waiting (u : State) (hu : ∀ x ∈ u.link.queue, x.inTx = false) :
        ∀ x ∈ (finish (giveAnswer e (slotAnswer b) u)).link.queue, x.inTx = false :=
      queueOnly_waiting.finish (queueOnly_waiting.giveAnswer (fun _ _ h => h) e _ hu)
    refine ⟨?_, waiting _ ?_, ?_, ?_, ?_, ?_⟩
    · rw [kept (·.link.isolation) fun _ => rfl]; simp
    · simp
    · rw [kept (·.link.badCount) fun _ => rfl]; simp
    · rw [kept (·.link.peers) fun _ => rfl]; simp
    · rw [kept (·.pos.counter) fun _ => rfl]; simp
    · rw [kept (·.allot) fun _ => rfl]; simp
  · refine ⟨fun r st hb ho => ?_, fun v hb ho => ?_, fun hn => ?_⟩
    · rw [read b s e ha he, giveAnswer, if_neg (by simp [ho]), hb]
    · have released := read b s e ha he
      rw [giveAnswer, if_neg (by simp [ho]), hb] at released
      exact ⟨released, _, released, queueOnly_unlatched.finish rfl⟩
    · rw [read b s e ha he, giveAnswer]
      split
      · rfl
      · rcases hn with ho | ⟨hb, hs⟩
        · contradiction
        · split
          · rename_i h; exact absurd h (hb _ _)
          · rename_i h; exact absurd h (hs _)
          all_goals rfl

end

section
/-! The expected list, resolution and offers taken (R46 to R50, R69, R70, R81). -/
namespace Sys2Proof.Machine

/-! ### Resolution: what it writes -/

/-- The references of the boards and the expected list renamed. -/
def Tracker.rejoin (g : Ref → Ref) (b : Tracker) : Tracker :=
  { b with
    expected := b.expected.map fun e => { e with ref := g e.ref }
    queue := b.queue.map fun r => { r with ref := g r.ref } }

theorem joinUnentered_board (p i : Nat) (s : State) : (joinUnentered p i s).board = s.board.rejoin (Ref.join p i) := rfl

theorem Tracker.rejoin_id (b : Tracker) : b.rejoin id = b := by
  unfold Tracker.rejoin
  have e : (fun e : Expected => { e with ref := id e.ref }) = id := rfl
  have r : (fun r : BoardRecord => { r with ref := id r.ref }) = id := rfl
  rw [e, r, List.map_id, List.map_id]

theorem calm_startFetch (i : Nat) (s : State) : calm (startFetch i s) = calm s := by
  unfold startFetch
  split
  · rfl
  · simp only []
    refine calm_ite rfl ?_
    rw [calm_enqueue]; rfl

@[simp] theorem startFetch_board (i : Nat) (s : State) : (startFetch i s).board = s.board := by
  unfold startFetch
  split
  · rfl
  · simp only []
    split
    · rfl
    · simp

@[simp] theorem startFetch_schedule (i : Nat) (s : State) : (startFetch i s).pos.schedule = s.pos.schedule := by
  unfold startFetch
  split
  · rfl
  · simp only []
    split
    · rfl
    · simp

theorem gated_resolve (p : Product) (s : State) : gated (resolve p s).2 = gated s := by
  unfold resolve
  split
  · rfl
  · split
    · rfl
    · split
      · unfold enterProduct
        simp only []
        split
        · rw [gated_of_calm (calm_appearance ..)]; rfl
        · rw [gated_of_calm (calm_startFetch ..)]; rfl
      · simp only []
        split
        · dsimp only
          split
          · rw [gated_of_calm (calm_startFetch ..)]; rfl
          · rfl
        · rfl

/-- A resolution renames the unentered references to a product that it enters, and leaves the boards else. -/
theorem resolve_board (p : Product) (s : State) : ∃ g, (resolve p s).2.board = s.board.rejoin g := by
  have same : s.board = s.board.rejoin id := (Tracker.rejoin_id _).symm
  unfold resolve
  split
  · exact ⟨id, same⟩
  · split
    · exact ⟨id, same⟩
    · split
      · unfold enterProduct
        simp only []
        split
        · exact ⟨id, same⟩
        · exact ⟨_, (startFetch_board ..).trans (joinUnentered_board ..)⟩
      · refine ⟨id, Eq.trans ?_ same⟩
        simp only []
        split
        · dsimp only
          split
          · exact startFetch_board ..
          · rfl
        · rfl

@[simp] theorem resolve_schedule (p : Product) (s : State) : (resolve p s).2.pos.schedule = s.pos.schedule := by
  unfold resolve
  split
  · rfl
  · split
    · rfl
    · split
      · unfold enterProduct
        simp only []
        split
        · rfl
        · exact startFetch_schedule ..
      · simp only []
        split
        · dsimp only
          split
          · exact startFetch_schedule ..
          · rfl
        · rfl

section
variable (p : Product) (s : State)

@[simp] theorem resolve_loader : (resolve p s).2.loader = s.loader := eq_of_gated (·.loader) (fun _ => rfl) (gated_resolve p s)
@[simp] theorem resolve_answer : (resolve p s).2.link.answer = s.link.answer := eq_of_gated (·.link.answer) (fun _ => rfl) (gated_resolve p s)
@[simp] theorem resolve_counter : (resolve p s).2.pos.counter = s.pos.counter := eq_of_gated (·.pos.counter) (fun _ => rfl) (gated_resolve p s)
@[simp] theorem resolve_cfg : (resolve p s).2.cfg = s.cfg := by simp [State.cfg]
@[simp] theorem resolve_me : (resolve p s).2.me = s.me := by simp [State.me]

end

/-! ### The expected list -/

theorem findExpected_isSome {t : Tag} {s : State} : (findExpected t s).isSome = true ↔ ∃ e ∈ s.board.expected, e.tag = t := by
  simp [findExpected, List.find?_isSome]

theorem findRecord_isSome {t : Tag} {q : List BoardRecord} : (findRecord t q).isSome = true ↔ ∃ r ∈ q, r.tag = t := by
  simp [findRecord, List.find?_isSome]

@[simp] theorem findExpected_setIsolation (t : Tag) (n : Nat) (s : State) :
    findExpected t (setIsolation n s) = findExpected t s := by simp [findExpected]

theorem dropExpected_eq (t : Tag) (s : State) : ∃ st, dropExpected t s = { s with
    board := { s.board with expected := s.board.expected.filter fun x => x.tag != t }, recipe := st } := by
  unfold dropExpected
  split
  · rename_i h
    have all : s.board.expected.filter (fun x => x.tag != t) = s.board.expected := by
      refine List.filter_eq_self.mpr fun x hx => ?_
      have := List.find?_eq_none.mp h x hx
      simpa using this
    rw [all]
    exact ⟨_, rfl⟩
  · exact ⟨_, rfl⟩

theorem dropExpected_expected (t : Tag) (s : State) :
    (dropExpected t s).board.expected = s.board.expected.filter fun x => x.tag != t := by
  obtain ⟨_, h⟩ := dropExpected_eq t s; rw [h]

theorem noticeAnswer_eq (t : Tag) (s : State) : noticeAnswer t s =
    if 65280 ≤ t ∨ (∃ e ∈ s.board.expected, e.tag = t) ∨ (∃ r ∈ s.board.queue, r.tag = t) then .refuse
    else if 16 ≤ s.board.expected.length then .defer else .accept := by
  unfold noticeAnswer
  simp only [findExpected_isSome, findRecord_isSome]
  by_cases h1 : 65280 ≤ t
  · rw [if_pos h1, if_pos (.inl h1)]
  by_cases h2 : ∃ e ∈ s.board.expected, e.tag = t
  · rw [if_neg h1, if_pos h2, if_pos (.inr (.inl h2))]
  by_cases h3 : ∃ r ∈ s.board.queue, r.tag = t
  · rw [if_neg h1, if_neg h2, if_pos h3, if_pos (.inr (.inr h3))]
  · rw [if_neg h1, if_neg h2, if_neg h3, if_neg (not_or.mpr ⟨h1, not_or.mpr ⟨h2, h3⟩⟩)]

/-- A notice is appended at the tail; the entries before it keep all but a reference (R47). -/
theorem appendNotice_expected (t : Tag) (p : Product) (n : Nat) (s : State) :
    (appendNotice t p n s).board.expected.map (fun e => (e.tag, e.product, e.length, e.admitted)) =
      s.board.expected.map (fun e => (e.tag, e.product, e.length, e.admitted)) ++ [(t, p, n, false)] := by
  obtain ⟨g, h⟩ := resolve_board p s
  simp [appendNotice, h, Tracker.rejoin, Function.comp_def]

theorem peer_setIsolation {n m : Nat} {s : State} (h : m ≠ s.me) : peer (setIsolation n s) m = peer s m := by
  simp [peer, h]

end Sys2Proof.Machine
end

section
open Sys2Proof Sys2Proof.Machine

/-- Settles O16. -/
theorem expectedListFollowsFrames : Obligations.ExpectedListFollowsFrames := by
  refine ⟨fun f s h => ⟨_, rfl, ?_⟩, fun f s h => ⟨_, rfl, ?_⟩, fun f s h => ⟨_, rfl, ?_⟩, fun f s h => ⟨_, rfl, ?_⟩⟩
  · rw [receive_panelToAll h rfl]
    simp only [handleFrame, takeBoardNotice, noticeAnswer_eq, setIsolation_board]
    split
    · simp
    · split
      · simp
      · simp [appendNotice_expected]
  · rw [receive_panelToAll h rfl]
    simp only [handleFrame, takeBoardWithdraw, findExpected_isSome, findRecord_isSome, setIsolation_board]
    split
    · simp [dropExpected_expected]
    · split <;> simp
  · rw [receive_heardByAll h rfl rfl]
    simp [handleFrame, takeBoardExit, dropExpected_expected]
  · rw [receive_heardByAll h rfl rfl]
    obtain ⟨_, _, hm, _⟩ := h
    simp only [handleFrame, takeAdmitted, peer_setIsolation hm]
    refine ⟨fun ⟨p, hp, he⟩ => ?_, fun hn => ?_⟩
    · simp [hp, he, Expected.markAdmitted]
    · cases hp : peer s f.src.toNat with
      | none => simp
      | some p => simp [hn p hp]

end

section
/-! An offer taken (R69, R70): the record made, its deadline, and what the end of a command leaves of a board that is
not exit-bound. -/
namespace Sys2Proof.Machine

/-! ### A board that is not exit-bound through the end of a command -/

/-- The records and schedule entries of a tag that is not exit-bound stand in t as in s. -/
def TagStands (tag : Tag) (s t : State) : Prop :=
  t.board.handoff.bound ≠ some tag ∧ (∀ r ∈ s.board.queue, r.tag = tag → r ∈ t.board.queue) ∧
    ∀ e ∈ s.pos.schedule, e.tag = tag → e ∈ t.pos.schedule

variable {tag : Tag} {s t u : State}

theorem TagStands.refl (h : s.board.handoff.bound ≠ some tag) : TagStands tag s s := ⟨h, fun _ h _ => h, fun _ h _ => h⟩

/-- A step that keeps the handoff, the queue and the schedule keeps what stands. -/
theorem TagStands.of_same (h : TagStands tag s t) (hb : u.board.handoff.bound = t.board.handoff.bound)
    (hq : u.board.queue = t.board.queue) (he : u.pos.schedule = t.pos.schedule) : TagStands tag s u := by
  unfold TagStands at *; rwa [hb, hq, he]

theorem TagStands.of_offAlarm (h : TagStands tag s t) (e : offAlarm u = offAlarm t) : TagStands tag s u :=
  h.of_same (congrArg (·.board.handoff.bound) e) (congrArg (·.board.queue) e) (congrArg (·.pos.schedule) e)

theorem TagStands.removeRecord (h : TagStands tag s t) {other : Tag} (ho : other ≠ tag) :
    TagStands tag s (removeRecord other t) := by
  cases hr : findRecord other t.board.queue with
  | none => rw [removeRecord_of_none hr]; exact h
  | some r =>
    obtain ⟨hb, hq, he⟩ := h
    refine ⟨?_, fun x hx ht => ?_, fun x hx ht => ?_⟩
    · rw [removeRecord_handoff hr]; split
      · simp [Handoff.clear]
      · exact hb
    · rw [removeRecord_queue]; exact List.mem_filter.mpr ⟨hq x hx ht, by simp [ht, ho.symm]⟩
    · rw [removeRecord_schedule hr]; exact List.mem_filter.mpr ⟨he x hx ht, by simp [ht, ho.symm]⟩

theorem TagStands.removeWithExit (h : TagStands tag s t) {other : Tag} (ho : other ≠ tag) (c : ExitCause) :
    TagStands tag s (removeWithExit other c t) := by
  unfold Machine.removeWithExit
  split
  · exact h
  · exact (h.removeRecord ho).of_offAlarm (offAlarm_enqueue ..)

theorem TagStands.mapRecord (h : TagStands tag s t) {other : Tag} (ho : other ≠ tag) (f : BoardRecord → BoardRecord) :
    TagStands tag s (mapRecord other f t) := by
  obtain ⟨hb, hq, he⟩ := h
  refine ⟨hb, fun x hx ht => List.mem_map.mpr ⟨x, hq x hx ht, ?_⟩, he⟩
  rw [if_neg (by simp [ht, ho.symm])]

theorem TagStands.answerOffer (h : TagStands tag s t) (other : Tag) : TagStands tag s (answerOffer other .none t) := by
  by_cases hb : t.board.handoff.bound = some other
  · have ho : other ≠ tag := fun e => h.1 (e ▸ hb)
    have taken : TagStands tag s (answered .none t) := h.of_same rfl rfl rfl
    rw [answerOffer_unaccepted hb (.inr rfl)]
    split
    · exact taken.removeWithExit ho _
    · exact taken.mapRecord ho _
  · rw [answerOffer_unbound _ hb]; exact h

theorem TagStands.deliverDropped (h : TagStands tag s t) : TagStands tag s (deliverDropped t) := by
  have fold : ∀ (l : List Tag) (x : State), TagStands tag s x →
      TagStands tag s (l.foldl (fun s t => Machine.answerOffer t .none s) x) := by
    intro l
    induction l with
    | nil => exact fun _ h => h
    | cons t ts ih => exact fun x h => ih _ (h.answerOffer t)
  exact fold _ _ (h.of_same rfl rfl rfl)

/-- The end of a command leaves the boards alone that are not exit-bound. -/
theorem TagStands.finish (h : TagStands tag s t) : TagStands tag s (finish t) :=
  finish_induction (fun _ h => h.deliverDropped) (fun c _ h => h.of_offAlarm (offAlarm_reportCode c _))
    (fun c _ _ h => h.of_offAlarm (offAlarm_announcePick c _)) h

/-! ### Nothing due, nothing run -/

theorem headDue_eq_false {c : Pos} {l : List Event} (h : ∀ e ∈ l, reached c e.due = false) : headDue c l = false := by
  cases l with
  | nil => rfl
  | cons e es => exact h e (List.mem_cons_self ..)

theorem waiting_nil {s : State} (h : headDue s.pos.counter s.pos.schedule = false) : waiting [] s = 0 := by
  simp [waiting, h]

theorem runEvents_of_not_due {s : State} (h : headDue s.pos.counter s.pos.schedule = false) : runEvents [] s = s := by
  unfold runEvents
  split
  · exact if_pos (waiting_nil h)
  · rfl

/-- A position less than 2^23 ahead is not reached (R33). -/
theorem reached_offset {c : Pos} {n : Nat} (hn : 0 < n) (hs : n < 8388608) : reached c (offset c n) = false := by
  unfold reached offset
  simp only [decide_eq_false_iff_not, Nat.not_lt]
  bv_omega

/-! ### Insertion -/

theorem insertEvent_inserted {t : Tag} {k : EventKind} {q : Nat} {due : Pos} {s : State} {l : List Event}
    (h : scheduleInsert s.pos.counter ⟨t, k, q, due⟩ s.pos.schedule = some l) :
    insertEvent t k q due s = (true, { s with pos := { s.pos with schedule := l } }) := by
  unfold insertEvent; rw [h]

theorem insertEvent_refused {t : Tag} {k : EventKind} {q : Nat} {due : Pos} {s : State}
    (h : scheduleInsert s.pos.counter ⟨t, k, q, due⟩ s.pos.schedule = none) :
    insertEvent t k q due s = (false, refusedKind t k (addException t xEventLost k.code s)) := by
  unfold insertEvent; rw [h]

@[simp] theorem insertEvent_expected (t : Tag) (k : EventKind) (q : Nat) (due : Pos) (s : State) :
    (insertEvent t k q due s).2.board.expected = s.board.expected :=
  eq_of_calm (·.board.expected) (fun _ => rfl) (calm_insertEvent ..)

theorem mem_scheduleInsert {c : Pos} {e x : Event} {l l' : List Event} (h : scheduleInsert c e l = some l') :
    x ∈ l' ↔ x = e ∨ (x ∈ l ∧ e.sameKey x = false) ∨ (x ∈ l ∧ l.any e.sameKey = false) := by
  unfold scheduleInsert at h
  split at h
  · rename_i ha
    obtain rfl := Option.some.inj h
    simp [mem_placeEvent, ha]
  · rename_i ha
    split at h
    · obtain rfl := Option.some.inj h
      simp only [mem_placeEvent, Bool.not_eq_true _ ▸ ha, and_true]
      exact or_congr_right ⟨.inr, fun g => g.elim And.left id⟩
    · exact absurd h nofun

/-- An insertion is refused exactly with 48 entries held and none of the key (R39). -/
theorem scheduleInsert_eq_none_iff {c : Pos} {e : Event} {l : List Event} :
    scheduleInsert c e l = none ↔ 48 ≤ l.length ∧ ∀ x ∈ l, e.sameKey x = false := by
  unfold scheduleInsert
  by_cases ha : l.any e.sameKey = true
  · rw [if_pos ha]
    simp only [List.any_eq_true] at ha
    obtain ⟨x, hx, hs⟩ := ha
    exact ⟨nofun, fun h => absurd (h.2 x hx) (by simp [hs])⟩
  · rw [if_neg ha]
    have hn : ∀ x ∈ l, e.sameKey x = false := by simpa using ha
    by_cases hl : l.length < 48
    · rw [if_pos hl]; exact ⟨nofun, fun h => absurd h.1 (by omega)⟩
    · rw [if_neg hl]; exact ⟨fun _ => ⟨by omega, hn⟩, fun _ => rfl⟩

/-! ### The record of an accepted offer -/

/-- The state with the record of an accepted offer in the queue, before its deadline is inserted (R70). -/
def offerHeld (body : List Byte) (s : State) : State :=
  let r := offerRecord body
  let res := resolve r.product (dropExpected r.tag s)
  { res.2 with board := { res.2.board with queue := placeRecord { r with ref := res.1 } res.2.board.queue } }

/-- The ARRIVAL DEADLINE of an accepted offer (R70). -/
def offerDeadline (body : List Byte) (s : State) : State :=
  (insertEvent (offerRecord body).tag .arrivalDeadline 0
    (offset s.pos.counter (s.cfg.geometry.gap + s.cfg.geometry.arrivalTol)) (offerHeld body s)).2

@[simp] theorem dropExpected_pos (t : Tag) (s : State) : (dropExpected t s).pos = s.pos := by
  obtain ⟨_, h⟩ := dropExpected_eq t s; rw [h]
@[simp] theorem dropExpected_handoff (t : Tag) (s : State) : (dropExpected t s).board.handoff = s.board.handoff := by
  obtain ⟨_, h⟩ := dropExpected_eq t s; rw [h]

theorem acceptOffer_eq (body : List Byte) (s : State) : acceptOffer body s = runEvents []
    (if (offerRecord body).volume.isSome then formRequired (offerDeadline body s) else offerDeadline body s) := by
  have counter : (offerHeld body s).pos.counter = s.pos.counter := by simp [offerHeld]
  unfold acceptOffer offerDeadline
  rw [← counter]
  rfl

theorem offerHeld_expected (body : List Byte) (s : State) :
    ∀ e ∈ (offerHeld body s).board.expected, e.tag ≠ (offerRecord body).tag := by
  obtain ⟨g, h⟩ := resolve_board (offerRecord body).product (dropExpected (offerRecord body).tag s)
  simp only [offerHeld, h, Tracker.rejoin, dropExpected_expected, List.mem_map, List.mem_filter]
  rintro e ⟨x, ⟨_, hx⟩, rfl⟩
  simpa using hx

theorem acceptOffer_expected (body : List Byte) (s : State) :
    ∀ e ∈ (acceptOffer body s).board.expected, e.tag ≠ (offerRecord body).tag := by
  rw [acceptOffer_eq, runEvents_expected]
  split <;> simpa [offerDeadline] using offerHeld_expected body s

theorem offerHeld_queue (body : List Byte) (s : State) :
    ∃ ref, { offerRecord body with ref := ref } ∈ (offerHeld body s).board.queue :=
  ⟨_, mem_placeRecord.mpr (.inl rfl)⟩

theorem offerHeld_schedule (body : List Byte) (s : State) : (offerHeld body s).pos.schedule = s.pos.schedule := by
  simp [offerHeld]

theorem offerHeld_counter (body : List Byte) (s : State) : (offerHeld body s).pos.counter = s.pos.counter := by
  simp [offerHeld]

theorem offerHeld_handoff (body : List Byte) (s : State) : (offerHeld body s).board.handoff = s.board.handoff := by
  obtain ⟨g, h⟩ := resolve_board (offerRecord body).product (dropExpected (offerRecord body).tag s)
  simp [offerHeld, h, Tracker.rejoin]

/-- What an offered record is made of, whatever its exceptions and reference. -/
def OfferedAs (body : List Byte) (r : BoardRecord) : Prop :=
  ∃ ref es ov, r = { offerRecord body with ref := ref, exceptions := es, overflow := ov }

theorem mem_updateRecord {t : Tag} {f : BoardRecord → BoardRecord} {q : List BoardRecord} {r : BoardRecord} (h : r ∈ q)
    (ht : r.tag = t) : f r ∈ updateRecord t f q := List.mem_map.mpr ⟨r, h, if_pos (by simp [ht])⟩

/-- With or without room in the schedule, the record stands; with room, its deadline too. -/
theorem offerDeadline_holds {body : List Byte} {s : State} :
    (offerDeadline body s).board.handoff = s.board.handoff ∧ (offerDeadline body s).pos.counter = s.pos.counter ∧
      (∃ r ∈ (offerDeadline body s).board.queue, OfferedAs body r) ∧
      ((∀ e ∈ s.pos.schedule, reached s.pos.counter e.due = false) →
        0 < s.cfg.geometry.gap + s.cfg.geometry.arrivalTol → s.cfg.geometry.gap + s.cfg.geometry.arrivalTol < 8388608 →
        ∀ e ∈ (offerDeadline body s).pos.schedule, reached s.pos.counter e.due = false) ∧
      (s.pos.schedule.length < 48 → (⟨(offerRecord body).tag, .arrivalDeadline, 0,
        offset s.pos.counter (s.cfg.geometry.gap + s.cfg.geometry.arrivalTol)⟩ : Event) ∈
          (offerDeadline body s).pos.schedule) := by
  obtain ⟨ref, held⟩ := offerHeld_queue body s
  have sched := offerHeld_schedule body s
  unfold offerDeadline
  cases hi : scheduleInsert (offerHeld body s).pos.counter ⟨(offerRecord body).tag, .arrivalDeadline, 0,
      offset s.pos.counter (s.cfg.geometry.gap + s.cfg.geometry.arrivalTol)⟩ (offerHeld body s).pos.schedule with
  | some l =>
    rw [insertEvent_inserted hi]
    refine ⟨offerHeld_handoff body s, offerHeld_counter body s, ⟨_, held, ref, _, _, rfl⟩, fun hd h0 hn e he => ?_,
      fun _ => (mem_scheduleInsert hi).mpr (.inl rfl)⟩
    rcases (mem_scheduleInsert hi).mp he with rfl | ⟨he, _⟩ | ⟨he, _⟩
    · exact reached_offset h0 hn
    · exact hd e (sched ▸ he)
    · exact hd e (sched ▸ he)
  | none =>
    rw [insertEvent_refused hi]
    refine ⟨offerHeld_handoff body s, offerHeld_counter body s, ⟨_, mem_updateRecord held rfl, ?_⟩,
      fun hd _ _ e he => hd e (sched ▸ he), fun hl => ?_⟩
    · unfold BoardRecord.addException
      split
      · exact ⟨ref, _, _, rfl⟩
      · split <;> exact ⟨ref, _, _, rfl⟩
    · have := (scheduleInsert_eq_none_iff.mp hi).1
      rw [sched] at this; omega

/-- The record and the deadline of an accepted offer, with nothing else due. -/
theorem acceptOffer_holds {body : List Byte} {s : State} (hd : ∀ e ∈ s.pos.schedule, reached s.pos.counter e.due = false)
    (h0 : 0 < s.cfg.geometry.gap + s.cfg.geometry.arrivalTol)
    (hn : s.cfg.geometry.gap + s.cfg.geometry.arrivalTol < 8388608) :
    (acceptOffer body s).board.handoff = s.board.handoff ∧
      (∃ r ∈ (acceptOffer body s).board.queue, OfferedAs body r) ∧
      (s.pos.schedule.length < 48 → (⟨(offerRecord body).tag, .arrivalDeadline, 0,
        offset s.pos.counter (s.cfg.geometry.gap + s.cfg.geometry.arrivalTol)⟩ : Event) ∈
          (acceptOffer body s).pos.schedule) := by
  obtain ⟨handoff, counter, record, quiet, deadline⟩ := offerDeadline_holds (body := body) (s := s)
  have due := headDue_eq_false (quiet hd h0 hn)
  rw [acceptOffer_eq]
  split
  · rw [runEvents_of_not_due (by rw [formRequired_pos, counter]; exact due), formRequired_board, formRequired_pos]
    exact ⟨handoff, record, deadline⟩
  · rw [runEvents_of_not_due (by rw [counter]; exact due)]
    exact ⟨handoff, record, deadline⟩

theorem offerAnswer_eq (f : Rx) (n : Nat) (s : State) : offerAnswer f (setIsolation n s) =
    if s.cfg.upstream ≠ some f.src.toNat then .refuse
    else if s.loader.station = .joining then .defer
    else if ∃ r ∈ s.board.queue, r.tag = field f.body 0 2 then .refuse
    else if 8 ≤ s.board.queue.length then .defer
    else .accept := by
  unfold offerAnswer
  simp only [findRecord_isSome, setIsolation_cfg, setIsolation_loader, setIsolation_board]

end Sys2Proof.Machine
end

section
open Sys2Proof Sys2Proof.Machine

/-- Settles O17. -/
theorem boardOfferAnswered : Obligations.BoardOfferAnswered := by
  intro f s h
  refine ⟨_, rfl, ?_⟩
  rw [receive_aimedHere h (.inl rfl) rfl]
  simp only [handleFrame, takeBoardOffer, finish_answer, driveAnswer_link, finish_expected, driveAnswer_board]
  refine ⟨offerAnswer_eq f 0 s, fun ha => ?_, fun ha => ?_, fun ha hd hb h0 hn => ?_⟩
  · rw [if_pos ha]; exact acceptOffer_expected f.body (setIsolation 0 s)
  · rw [if_neg ha, setIsolation_board]
  · obtain ⟨handoff, ⟨r, hr, ref, es, ov, made⟩, deadline⟩ := acceptOffer_holds (body := f.body)
      (s := setIsolation 0 s) (by simpa using hd) (by simpa using h0) (by simpa using hn)
    have stands := (TagStands.refl (tag := field f.body 0 2)
      (s := driveAnswer .accept (acceptOffer f.body (setIsolation 0 s)))
      (by rw [driveAnswer_board, handoff, setIsolation_board]; exact hb)).finish
    obtain ⟨_, records, events⟩ := stands
    rw [if_pos ha, ha]
    refine ⟨⟨r, records r hr (by rw [made]; rfl), ?_⟩, fun hl => ?_⟩
    · rw [made]; exact ⟨rfl, rfl, rfl, rfl, rfl, rfl, rfl, rfl⟩
    · simp only [setIsolation_pos, setIsolation_cfg] at deadline
      exact events _ (deadline hl) rfl

end

section
/-! Recipe pages and fetches (R77, R84, R89, R90). -/
namespace Sys2Proof.Machine

/-! ### Which bodies hold a page (R76, R89, R206) -/

theorem field_one (b : List Byte) (i : Nat) : field b i 1 = byteAt b i := by simp [field]

theorem byteAt_le (b : List Byte) (i : Nat) : byteAt b i ≤ 255 := by
  unfold byteAt; omega

theorem heatPageAt_inRange (b : List Byte) :
    (heatPageAt b 6).inRange = true ↔ ∀ i, i < 33 → field b (6 + 2 * i) 2 ≤ 4000 := by
  simp only [HeatPage.inRange, Bool.and_eq_true, decide_eq_true_eq, List.all_eq_true]
  simp only [heatPageAt, List.mem_map, List.mem_range]
  refine ⟨fun ⟨⟨pot, top⟩, bottom⟩ i hi => ?_, fun h => ⟨⟨h 0 (by omega), ?_⟩, ?_⟩⟩
  · obtain rfl | ⟨hl, hh⟩ | hl : i = 0 ∨ (1 ≤ i ∧ i ≤ 16) ∨ 17 ≤ i := by omega
    · exact pot
    · exact top _ ⟨i - 1, by omega, by rw [show 6 + 2 + 2 * (i - 1) = 6 + 2 * i by omega]⟩
    · exact bottom _ ⟨i - 17, by omega, by rw [show 6 + 34 + 2 * (i - 17) = 6 + 2 * i by omega]⟩
  · rintro _ ⟨z, hz, rfl⟩
    rw [show 6 + 2 + 2 * z = 6 + 2 * (z + 1) by omega]
    exact h _ (by omega)
  · rintro _ ⟨z, hz, rfl⟩
    rw [show 6 + 34 + 2 * z = 6 + 2 * (z + 17) by omega]
    exact h _ (by omega)

theorem fluxPageAt_inRange (b : List Byte) : (fluxPageAt b 6).inRange = true ↔
    field b 7 2 ≤ 1000 ∧ field b 9 2 ≤ 1000 ∧ (20 ≤ field b 11 2 ∧ field b 11 2 ≤ 2000) ∧
      (5 ≤ byteAt b 13 ∧ byteAt b 13 ≤ 200) ∧ 1 ≤ byteAt b 14 ∧ byteAt b 15 ≤ 50 := by
  simp only [FluxPage.inRange, Bool.and_eq_true, decide_eq_true_eq]
  simp only [fluxPageAt]
  exact ⟨fun ⟨⟨⟨⟨⟨⟨⟨lead, tail⟩, lo⟩, hi⟩, short⟩, long⟩, nominal⟩, tol⟩ =>
      ⟨lead, tail, ⟨lo, hi⟩, ⟨short, long⟩, nominal, tol⟩,
    fun ⟨lead, tail, ⟨lo, hi⟩, ⟨short, long⟩, nominal, tol⟩ =>
      ⟨⟨⟨⟨⟨⟨⟨lead, tail⟩, lo⟩, hi⟩, short⟩, long⟩, nominal⟩, tol⟩⟩

theorem wavePageAt_eq {b : List Byte} (h : byteAt b 8 ≤ 1) :
    wavePageAt b 6 = ⟨byteAt b 6, byteAt b 7, byteAt b 8 = 1⟩ := by
  obtain h | h : byteAt b 8 = 0 ∨ byteAt b 8 = 1 := by omega
  all_goals simp [wavePageAt, flagAt, h]

/-- A body holds a page exactly where its length, its kind byte and its ranges agree. -/
theorem recipePageBody_eq_some_iff (b : List Byte) (p : Page) : recipePageBody b = some p ↔
    (b.length = 72 ∧ byteAt b 3 = 1 ∧ (heatPageAt b 6).inRange = true ∧ p = .heat (heatPageAt b 6)) ∨
    (b.length = 16 ∧ byteAt b 3 = 2 ∧ (fluxPageAt b 6).inRange = true ∧ p = .flux (fluxPageAt b 6)) ∨
    (b.length = 9 ∧ byteAt b 3 = 3 ∧ byteAt b 8 ≤ 1 ∧ p = .wave (wavePageAt b 6)) := by
  simp only [recipePageBody, Bool.and_eq_true, beq_iff_eq]
  by_cases hh : b.length = 72 ∧ byteAt b 3 = 1
  · obtain ⟨hl, hk⟩ := hh
    by_cases hr : (heatPageAt b 6).inRange = true <;> simp [hl, hk, hr, eq_comm (b := p)]
  · rw [if_neg hh]
    by_cases hf : b.length = 16 ∧ byteAt b 3 = 2
    · obtain ⟨hl, hk⟩ := hf
      by_cases hr : (fluxPageAt b 6).inRange = true <;> simp [hl, hk, hr, eq_comm (b := p)]
    · rw [if_neg hf]
      by_cases hw : b.length = 9 ∧ byteAt b 3 = 3
      · obtain ⟨hl, hk⟩ := hw
        by_cases hr : byteAt b 8 ≤ 1 <;> simp [hl, hk, hr, eq_comm (b := p)]
      · rw [if_neg hw]
        refine ⟨nofun, ?_⟩
        rintro (⟨hl, hk, _⟩ | ⟨hl, hk, _⟩ | ⟨hl, hk, _⟩)
        · exact absurd ⟨hl, hk⟩ hh
        · exact absurd ⟨hl, hk⟩ hf
        · exact absurd ⟨hl, hk⟩ hw

/-! ### A page at an entry -/

@[simp] theorem page_withPage (e : DirEntry) (k : PageKind) (r : Resident) : (e.withPage k r).page k = some r := by
  cases k <;> rfl

theorem page_withPage_ne {e : DirEntry} {k j : PageKind} (r : Resident) (h : j ≠ k) :
    (e.withPage k r).page j = e.page j := by
  cases k <;> cases j <;> simp_all [DirEntry.withPage, DirEntry.page]

/-- A page made resident leaves the rest of its entry as it was. -/
theorem withPage_rest (e : DirEntry) (k : PageKind) (r : Resident) : (e.withPage k r).product = e.product ∧
    (e.withPage k r).live = e.live ∧ (e.withPage k r).fetch = e.fetch ∧ (e.withPage k r).used = e.used ∧
    (e.withPage k r).count = e.count ∧ (e.withPage k r).timer = e.timer := by
  cases k <;> exact ⟨rfl, rfl, rfl, rfl, rfl, rfl⟩

theorem full_iff {f : Functions} {e : DirEntry} : e.full f = true ↔ ∀ k, e.missing f k = false := by
  unfold DirEntry.full
  refine ⟨fun h k => ?_, fun h => by simp [h]⟩
  simp only [Bool.not_eq_true', Bool.or_eq_false_iff] at h
  obtain ⟨⟨heat, flux⟩, wave⟩ := h
  cases k <;> assumption

variable {i rev n : Nat} {p : Page} {s : State} {e : DirEntry} {x : Resident}

theorem storeAt_resident (he : s.recipe.entry i = some e) (hp : e.page p.kind = some x) : storeAt i p rev s =
    if e.live && x.revision != rev then
      (.stored, { s with recipe := (s.recipe.writeSlot x.slot p).setEntry i (some (e.withPage p.kind ⟨x.slot, rev⟩)) })
    else (.unwanted, s) := by
  unfold storeAt
  simp only [he, hp]

theorem storeAt_noRoom (he : s.recipe.entry i = some e) (hp : e.page p.kind = none)
    (hr : (s.recipe.roomForPage i).1 = none) :
    storeAt i p rev s = (.noRoom, appearance aDirectoryFull { s with recipe := (s.recipe.roomForPage i).2 }) := by
  unfold storeAt
  simp only [he, hp, hr]

theorem storeAt_room (he : s.recipe.entry i = some e) (hp : e.page p.kind = none)
    (hr : s.recipe.roomForPage i = (some n, st)) : storeAt i p rev s = (.stored, { s with
      recipe := (st.writeSlot n p).setEntry i (some ((e.withPage p.kind ⟨n, rev⟩).settle s.cfg.functions)) }) := by
  unfold storeAt
  simp only [he, hp, hr]

theorem roomForPage_free {st : RecipeStore} (h : st.freeSlot = some n) : st.roomForPage i = (some n, st) := by
  unfold RecipeStore.roomForPage; rw [h]

end Sys2Proof.Machine
end

section
open Sys2Proof Sys2Proof.Machine

/-- Settles O19. -/
theorem fetchEnds : Obligations.FetchEnds := by
  refine ⟨fun i p rev s e n he hi hp hk hm hf hn => ?_, fun i s e ha he hf ht => ?_⟩
  · have stored := storeAt_room (rev := rev) he hp (roomForPage_free hf)
    have full : (e.withPage p.kind ⟨n, rev⟩).full s.cfg.functions = true := by
      refine full_iff.mpr fun k => ?_
      by_cases h : k = p.kind
      · subst h; simp [DirEntry.missing]
      · simpa [DirEntry.missing, page_withPage_ne _ h] using hm k h
    have settled : (e.withPage p.kind ⟨n, rev⟩).settle s.cfg.functions =
        { e.withPage p.kind ⟨n, rev⟩ with fetch := .complete, timer := none } := if_pos full
    obtain ⟨_, live, _, _, count, _⟩ := withPage_rest e p.kind ⟨n, rev⟩
    have page : ({ e.withPage p.kind ⟨n, rev⟩ with fetch := .complete, timer := none } : DirEntry).page p.kind =
        some ⟨n, rev⟩ := by cases p <;> rfl
    rw [stored, settled]
    have entry := entry_setEntry (st := s.recipe.writeSlot n p) i
      (some { e.withPage p.kind ⟨n, rev⟩ with fetch := .complete, timer := none }) hi
    refine ⟨_, rfl, entry, rfl, rfl, count, live, ?_, ?_⟩
    · simp only [RecipeStore.pageOf, entry, page]
      simp [RecipeStore.setEntry, RecipeStore.writeSlot, List.getD_eq_getElem?_getD, hn]
    · simp only [RecipeStore.status, entry, if_true]
  · have expired : s.recipe.fetchExpired i = s.recipe.setEntry i (some { e with fetch := .failed, timer := none }) := by
      unfold RecipeStore.fetchExpired
      simp only [he]
      exact if_pos ⟨hf, Option.isSome_iff_ne_none.mpr ht⟩
    simp only [exec, execFetchTimerExpiry, if_pos ha, expired]

/-- Settles O18. -/
theorem recipePageAnswered : Obligations.RecipePageAnswered := by
  refine ⟨fun f s ha hl hm hp ht => ?_, fun i p rev s e x he hi hx => ⟨fun hlive hr hs => ?_, fun h => ?_⟩,
    fun i p rev s e he hp hr => ?_, fun b p => ?_⟩
  · have taken : takesFrame .recipePage f s = true := by
      simp only [takesFrame, Kind.panelOnly, Kind.form, hp]
      simpa using ht
    have e : exec (.recipePage f) s = .next (finish (receive .recipePage f s)) := rfl
    simp only [e, receive_taken ha hl hm taken, handleFrame, takeRecipePage]
    refine ⟨fun hb => ?_, fun p hb hc => ?_, fun p c hb hc hs => ?_, fun p c hb hc hs hn => ?_,
      fun p c hb hc hs hn => ?_⟩
    · simp only [hb]
    · simp only [hb, hc]
    · simp only [hb, hc, if_pos ((isServiceCode_of_productAt hc).mpr hs)]
    · have plain : isServiceCode c = false := by
        rw [Bool.eq_false_iff, Ne, isServiceCode_of_productAt hc]; omega
      simp only [hb, hc, plain, setIsolation_cfg, hn, Bool.not_false, if_true, Bool.false_eq_true, if_false]
    · have plain : isServiceCode c = false := by
        rw [Bool.eq_false_iff, Ne, isServiceCode_of_productAt hc]; omega
      simp only [hb, hc, plain, setIsolation_cfg, setIsolation_recipe, hn, Bool.not_true, Bool.false_eq_true, if_false]
  · obtain ⟨product, live, fetch, used, count, timer⟩ := withPage_rest e p.kind ⟨x.slot, rev⟩
    refine ⟨e.withPage p.kind ⟨x.slot, rev⟩, ?_, page_withPage .., fun k hk => page_withPage_ne _ hk, product,
      live.trans hlive, fetch, used, count, timer⟩
    rw [storeAt_resident he hx, if_pos (by simp [hlive, hr])]
    rfl
  · rw [storeAt_resident he hx, if_neg (by rcases h with h | h <;> simp [h])]
  · rw [storeAt_noRoom he hp hr]
    refine ⟨rfl, rfl, fun hl => ?_⟩
    rw [appearance_alarm]
    refine AlarmUnit.standing_appear ?_ (.inr (.inl (by decide)))
    exact hl.symm ▸ (by decide : aDirectoryFull < 64)
  · simp only [recipePageBody_eq_some_iff, heatPageAt_inRange, fluxPageAt_inRange, field_one]
    refine or_congr Iff.rfl (or_congr ?_ ?_)
    · have := byteAt_le b 14
      simp only [fluxPageAt]
      constructor
      · rintro ⟨hl, hk, ⟨lead, tail, pitch, pulse, nominal, tolerance⟩, rfl⟩
        exact ⟨hl, hk, ⟨by omega, lead⟩, ⟨by omega, tail⟩, pitch, pulse, ⟨nominal, this⟩, ⟨by omega, tolerance⟩, rfl⟩
      · rintro ⟨hl, hk, lead, tail, pitch, pulse, nominal, tolerance, rfl⟩
        exact ⟨hl, hk, ⟨lead.2, tail.2, pitch, pulse, nominal.1, tolerance.2⟩, rfl⟩
    · refine and_congr_right fun _ => and_congr_right fun _ => and_congr_right fun h => ?_
      rw [wavePageAt_eq h]

end

section
/-! The status period, stale peers and power rounds (R15, R16, R25, R125 to R135). -/
namespace Sys2Proof.Machine

/-! ### Modes derived anew write the channels and the alarm sets alone -/

theorem rederive_eq (k : Nat) (s : State) : ∃ ch a, rederive k s =
    { s with heat := { s.heat with channels := ch }, alarm := a } := by
  unfold rederive
  split
  · exact ⟨_, _, rfl⟩
  · simp only []
    split <;> exact ⟨_, _, rfl⟩

theorem rederiveAll_eq (s : State) : ∃ ch a, rederiveAll s =
    { s with heat := { s.heat with channels := ch }, alarm := a } := by
  have fold : ∀ (l : List Nat) (x : State), ∃ ch a, l.foldl (fun s k => rederive k s) x =
      { x with heat := { x.heat with channels := ch }, alarm := a } := by
    intro l
    induction l with
    | nil => exact fun _ => ⟨_, _, rfl⟩
    | cons k ks ih =>
      intro x
      obtain ⟨ch, a, e⟩ := rederive_eq k x
      obtain ⟨ch', a', e'⟩ := ih (rederive k x)
      exact ⟨ch', a', by rw [List.foldl_cons, e', e]⟩
  exact fold _ s

section
variable (m : Bool) (s : State)

@[simp] theorem queueStatus_loader : (queueStatus m s).loader = s.loader := congrArg (·.loader) (offAlarm_queueStatus m s)
@[simp] theorem queueStatus_counter : (queueStatus m s).pos.counter = s.pos.counter := congrArg (·.pos.counter) (offAlarm_queueStatus m s)
@[simp] theorem queueStatus_peers : (queueStatus m s).link.peers = s.link.peers := congrArg (·.link.peers) (offAlarm_queueStatus m s)
@[simp] theorem queueStatus_heat : (queueStatus m s).heat = s.heat := congrArg (·.heat) (offAlarm_queueStatus m s)
@[simp] theorem queueStatus_allot : (queueStatus m s).allot = s.allot := congrArg (·.allot) (offAlarm_queueStatus m s)
@[simp] theorem queueStatus_cfg : (queueStatus m s).cfg = s.cfg := by simp [State.cfg]

end

/-! ### What a round counted writes -/

/-- A completed own round writes nothing of the position, the peers or the allotment. -/
theorem countRound_kept (s : State) : (countRound s).allot = s.allot ∧ (countRound s).pos.counter = s.pos.counter ∧
    (countRound s).link.peers = s.link.peers := by
  unfold countRound
  split
  · simp only []
    split
    · obtain ⟨ch, a, e⟩ := rederiveAll_eq { s with loader := { s.loader with
        roundCount := s.loader.roundCount + 1, station := .running } }
      simp only [enterRunning, queueStatus_peers, queueStatus_allot, queueStatus_counter]
      rw [e, touchPumps_eq]
      exact ⟨rfl, rfl, rfl⟩
    · exact ⟨rfl, rfl, rfl⟩
  · exact ⟨rfl, rfl, rfl⟩

theorem countRound_first {s : State} (h : s.loader.station = .joining) (hr : s.loader.roundCount = 0) :
    (countRound s).loader = { s.loader with roundCount := 1 } := by
  simp [countRound, h, hr]

theorem countRound_second {s : State} (h : s.loader.station = .joining) (hr : s.loader.roundCount = 1) :
    (countRound s).loader = { s.loader with roundCount := 2, station := .running } := by
  obtain ⟨ch, a, e⟩ := rederiveAll_eq { s with loader := { s.loader with
        roundCount := s.loader.roundCount + 1, station := .running } }
  unfold countRound
  rw [if_pos h]
  simp only [hr, Nat.reduceAdd, Nat.le_refl, if_true, enterRunning, queueStatus_loader]
  simp only [hr, Nat.reduceAdd] at e
  rw [e, touchPumps_eq]

/-! ### Grants and caps of the own channels -/

theorem getD_grants {s : State} (c : Bool) (l : Nat) (h : s.me < 16) :
    (grants l (viewDemands c s)).getD s.me 0 = grantOf l (viewDemands c s).sum (ownDemand c s) := by
  simp [grants, List.getD_eq_getElem?_getD, getElem?_viewDemands s c h, viewDemand]

theorem sum_caps_le (img : Image) (c : Bool) (q cap : Nat → Nat) (g : Nat)
    (h : ∀ k ∈ img.classChannels c, cap k = capOf g (q k) ((img.classChannels c).map q).sum) :
    ((img.classChannels c).map cap).sum ≤ g := by
  have eq : (img.classChannels c).map cap = grants g ((img.classChannels c).map q) := by
    rw [List.map_congr_left h, grants, List.map_map]
    rfl
  rw [eq]; exact sum_grants_le ..

theorem channelCap_pot {s : State} {g0 g1 k : Nat} (h : (s.cfg.channel k).fn = .pot) :
    channelCap s g0 g1 k = capOf g0 (channelDemand s k) (ownDemand true s) := by simp [channelCap, h]

theorem channelCap_preheat {s : State} {g0 g1 k : Nat} (h : (s.cfg.channel k).fn.preheat = true) :
    channelCap s g0 g1 k = capOf g1 (channelDemand s k) (ownDemand false s) := by
  unfold channelCap
  cases hf : (s.cfg.channel k).fn <;> simp_all [ChFunction.preheat]

/-- A frame that takes over nothing of the waiting frame it replaces stands in the queue, room given. -/
theorem waits_enqueue_whole {b : Block} {x : BitVec 5} {y : Body} {s : State} (hy : ∀ z : Body, z.replacing y = y)
    (hq : s.link.queue.length < 12) : Waits (enqueue b x y s) x y := by
  unfold Waits
  rw [enqueue_queue]
  rcases noneWaiting_or_split ⟨y, x, b, false, false⟩ s.link.queue with none | ⟨pre, z, post, split, hz, hk, hpre⟩
  · rw [placeFrame_of_room (.inr none) hq]
    exact ⟨_, mem_insertByKey.mpr (.inl rfl), rfl, rfl, rfl⟩
  · by_cases hr : y.replaces = true
    · rw [split, placeFrame_of_waiting hr hz hk hpre]
      exact ⟨_, List.mem_append_right _ (List.mem_cons_self ..), rfl, rfl, hy _⟩
    · rw [placeFrame_of_room (.inl (by simpa using hr)) hq]
      exact ⟨_, mem_insertByKey.mpr (.inl rfl), rfl, rfl, rfl⟩

theorem enterable_iff (b : List Byte) (panel src : Nat) : ((demandOf b).enterable = true ∧ src ≠ panel) ↔
    ¬(480 < field b 4 2 ∨ 480 < field b 6 2 ∨ field b 4 2 < field b 0 2 ∨ field b 6 2 < field b 2 2 ∨ src = panel) := by
  simp only [Demand.enterable, Bool.and_eq_true, decide_eq_true_eq]
  simp only [demandOf, not_or, Nat.not_lt, and_assoc]

end Sys2Proof.Machine
end

section
open Sys2Proof Sys2Proof.Machine

/-- Settles O24. -/
theorem statusPeriodAndStalePeers : Obligations.StatusPeriodAndStalePeers := by
  refine ⟨fun s ha hl => ?_, fun s ha hl => ?_, fun n s p ha hn hm hp => ?_, fun s => ⟨?_, ?_⟩⟩
  · have e : exec .statusPeriod s = .next (finish (statusPeriodOver { s with expiries := { s.expiries with
        queued := withoutTimer .statusPeriod s.expiries.queued } })) := by
      simp only [exec, execStatusPeriod, if_pos ha, takeExpiry_acts hl]
    refine ⟨⟨_, e⟩, _, e, ?_, ?_⟩
    · refine (keeps_finish _).period ((keeps_formFan _).period ((keeps_judgeAdmission _).period
        ((keeps_reofferBlocked _).period (queueStatus_statusAge ..))))
    · have kept {α : Type} (f : State → α) (hf : ∀ x, f (gated x) = f x) (hs : ∀ x, f (formFan x) = f x) (u : State) :
          f (statusPeriodOver u) = f u := by
        have reoffered : gated (reofferBlocked (queueStatus false u)) = gated u := by
          have queued := gated_of_calm (calm_of_offAlarm (offAlarm_queueStatus false u))
          unfold reofferBlocked
          split
          · exact queued
          · split
            · exact queued
            · split
              · exact (gated_of_calm (calm_offerBoard ..)).trans queued
              · exact queued
        unfold statusPeriodOver
        rw [hs, ← hf, gated_judgeAdmission, reoffered, hf]
      refine ⟨?_, ?_, ?_, ?_, ?_⟩
      · rw [finish_counter]; exact kept (·.pos.counter) (fun _ => rfl) (fun _ => by simp) _
      · rw [finish_loader]; exact kept (·.loader) (fun _ => rfl) (fun _ => by simp) _
      · rw [finish_peers]; exact kept (·.link.peers) (fun _ => rfl) (fun _ => by simp) _
      · rw [finish_channels]; exact kept (·.heat.channels) (fun _ => rfl) (fun _ => by simp) _
      · rw [finish_allot]; exact kept (·.allot) (fun _ => rfl) (fun _ => by simp) _
  · simp only [exec, execStatusPeriod, if_pos ha, takeExpiry_void hl]
    rfl
  · refine ⟨_, by simp only [exec, execPeerStatusStale, if_pos ha]; rfl, ?_⟩
    have heard : s.link.peers[n]?.getD none = some p := by simpa [peer, hm, List.getD_eq_getElem?_getD] using hp
    have peers : (finish (if n = s.cfg.cover then
          formAdopted { s with link := { s.link with peers := s.link.peers.modify n (·.map Peer.stale) } }
        else { s with link := { s.link with peers := s.link.peers.modify n (·.map Peer.stale) } })).link.peers =
        s.link.peers.modify n (·.map Peer.stale) := by
      rw [finish_peers]; split <;> simp
    have loader : (finish (if n = s.cfg.cover then
          formAdopted { s with link := { s.link with peers := s.link.peers.modify n (·.map Peer.stale) } }
        else { s with link := { s.link with peers := s.link.peers.modify n (·.map Peer.stale) } })).loader = s.loader := by
      rw [finish_loader]; split <;> simp
    generalize ht : finish (if n = s.cfg.cover then
          formAdopted { s with link := { s.link with peers := s.link.peers.modify n (·.map Peer.stale) } }
        else { s with link := { s.link with peers := s.link.peers.modify n (·.map Peer.stale) } }) = t at peers loader ⊢
    have me : t.me = s.me := by simp [State.me, loader]
    have cfg : t.cfg = s.cfg := by simp [State.cfg, loader]
    have aged : peer t n = some p.stale := by
      unfold peer
      rw [me, if_neg hm, peers, List.getD_eq_getElem?_getD, List.getElem?_modify_eq]
      cases g : s.link.peers[n]? with
      | none => simp [g] at heard
      | some x => simp only [g, Option.getD_some] at heard; simp [heard]
    have old : ∀ q, peer t n = some q → 1000 ≤ q.age := fun q hq => by
      obtain rfl := Option.some.inj (aged.symm.trans hq)
      exact Nat.le_max_left ..
    refine ⟨(peerFresh_eq_false_iff t n).mpr old, fun hmem => (peerStale_iff t).mpr ⟨n, hn, by rw [cfg]; exact hmem,
      by rw [me]; exact hm, old⟩, fun m hmn hmm => ?_, ?_, loader⟩
    · unfold peer
      rw [me, if_neg hmm, if_neg hmm, peers, List.getD_eq_getElem?_getD, List.getD_eq_getElem?_getD,
        List.getElem?_modify]
      simp [hmn.symm]
    · rw [← ht, finish_counter]; split <;> simp
  · exact if_pos rfl
  · simp [peerFresh, peer, peerStaleAge]

/-- Settles O26. -/
theorem powerRoundAndHeatDemand : Obligations.PowerRoundAndHeatDemand := by
  have run (s : State) (ha : s.active = true) : exec .powerRound s = .next (finish (countRound (ownRound s))) := by
    simp only [exec, execPowerRound, if_pos ha]
  have loader (s : State) : (ownRound s).loader = s.loader := by simp [ownRound, queueDemand]
  refine ⟨fun s ha hm => ⟨_, run s ha, ?_⟩, fun s g0 g1 => ⟨fun k hk => ?_, fun k hk => ?_, fun k hk => ?_, ?_, ?_⟩,
    fun s hs => ⟨fun hr => ?_, fun hr => ?_⟩, fun f s h => ⟨_, rfl, ?_⟩⟩
  · obtain ⟨allot, counter, peers⟩ := countRound_kept (ownRound s)
    have grant0 : (grants0 s).getD s.me 0 = grantOf s.cfg.supplyLimit (viewDemands true s).sum (ownDemand true s) :=
      getD_grants true _ hm
    have grant1 : (grants1 s).getD s.me 0 = grantOf (remainder s) (viewDemands false s).sum (ownDemand false s) :=
      getD_grants false _ hm
    simp only [finish_allot, finish_counter, finish_peers, allot, counter, peers]
    refine ⟨grant0, grant1, rfl, rfl, ?_, fun k hk => ?_, ?_, ?_, run s ha, rfl, fun hq => ?_⟩
    · show shortCount _ _ _ _ _ = _
      rw [grant0, grant1]; rfl
    · show ((List.range 6).map (channelCap s _ _))[k]? = _
      rw [grant0, grant1, List.getElem?_map, List.getElem?_range hk]; rfl
    · simp [ownRound, queueDemand]
    · simp [ownRound, queueDemand]
    · exact waits_enqueue_whole (fun z => by cases z <;> rfl) hq
  · simp [channelCap, hk]
  · rw [channelCap_pot hk]; rfl
  · rw [channelCap_preheat hk]; rfl
  · refine sum_caps_le _ _ (channelDemand s) _ _ fun k hk => channelCap_pot ?_
    simpa using (List.mem_filter.mp hk).2
  · refine sum_caps_le _ _ (channelDemand s) _ _ fun k hk => channelCap_preheat ?_
    obtain ⟨used, notPot⟩ := List.mem_filter.mp hk
    have := mem_usedChannels.mp used
    cases hf : (s.cfg.channel k).fn <;> simp_all [ChFunction.preheat]
  · have first := countRound_first (s := ownRound s) (by rw [loader]; exact hs) (by rw [loader]; exact hr)
    refine ⟨_, run s (by simp [State.active, hs]), ?_⟩
    simp only [finish_loader, first, loader]
    exact ⟨hs, trivial⟩
  · have second := countRound_second (s := ownRound s) (by rw [loader]; exact hs) (by rw [loader]; exact hr)
    refine ⟨_, run s (by simp [State.active, hs]), ?_⟩
    simp only [finish_loader, second]
    exact ⟨trivial, trivial⟩
  · have entered := enterable_iff f.body s.cfg.panel f.src.toNat
    rw [receive_heardByAll h rfl rfl]
    simp only [handleFrame, takeHeatDemand, setIsolation_cfg, entered]
    by_cases hr : 480 < field f.body 4 2 ∨ 480 < field f.body 6 2 ∨ field f.body 4 2 < field f.body 0 2 ∨
        field f.body 6 2 < field f.body 2 2 ∨ f.src.toNat = s.cfg.panel
    · rw [if_pos hr, if_neg (not_not_intro hr)]
      simp
    · rw [if_neg hr, if_pos hr]
      simp [demandOf]

end

section
/-! Admission at the entry gate (R57, R58). -/
namespace Sys2Proof.Machine

/-! ### When the gate may open -/

/-- What R57 asks of member n for the head h. -/
def MemberReady (s : State) (h : Expected) (n : Nat) : Prop :=
  ∃ p, peer s n = some p ∧ p.age < 1000 ∧ p.status.admitFlag = true ∧
    (p.status.readyFor = none ∨ p.status.readyFor = h.product)

/-- What R57 asks of the station and the line for the head h. -/
def LineReady (s : State) (h : Expected) : Prop :=
  s.cfg.functions.entry = true ∧ s.loader.station = .running ∧ s.board.gate = none ∧ s.board.queue.length < 8 ∧
    (∀ r ∈ s.board.queue, r.state ≠ .inbound ∧ r.state ≠ .entering) ∧
    (∀ p, s.board.spacing = some p → reachedBy s.pos.counter p s.cfg.geometry.minSpacing = true) ∧
    s.board.admitFlag = true ∧ ∀ n, n < 16 → s.cfg.member n = true → n ≠ s.me → MemberReady s h n

variable {s : State} {h : Expected}

theorem memberReady_iff {n : Nat} : memberReady s h n = true ↔ n = s.me ∨ MemberReady s h n := by
  unfold memberReady MemberReady
  cases peer s n with
  | none => simp
  | some p =>
    simp only [Bool.or_eq_true, beq_iff_eq, Bool.and_eq_true, decide_eq_true_eq, Option.some.injEq, exists_eq_left', and_assoc]
    rfl

theorem spacing_clear_iff : (match s.board.spacing with
      | none => true
      | some p => reachedBy s.pos.counter p s.cfg.geometry.minSpacing) = true ↔
    ∀ p, s.board.spacing = some p → reachedBy s.pos.counter p s.cfg.geometry.minSpacing = true := by
  cases s.board.spacing <;> simp

theorem mayAdmit_iff : mayAdmit s h = true ↔ LineReady s h := by
  have members : ((List.range 16).all fun n => !s.cfg.member n || memberReady s h n) = true ↔
      ∀ n, n < 16 → s.cfg.member n = true → n ≠ s.me → MemberReady s h n := by
    simp only [List.all_eq_true, List.mem_range, Bool.or_eq_true, Bool.not_eq_true', memberReady_iff]
    refine forall₂_congr fun n _ => ?_
    by_cases hm : s.cfg.member n = true <;> by_cases hn : n = s.me <;> simp [hm, hn]
  have noneIncoming : (!(s.board.queue.any fun r => r.state == .inbound || r.state == .entering)) = true ↔
      ∀ r ∈ s.board.queue, r.state ≠ .inbound ∧ r.state ≠ .entering := by simp
  unfold mayAdmit LineReady
  rw [Bool.and_eq_true, Bool.and_eq_true, Bool.and_eq_true, Bool.and_eq_true, Bool.and_eq_true, Bool.and_eq_true,
    Bool.and_eq_true, members, noneIncoming, decide_eq_true_iff, running_eq_true_iff, Option.isNone_iff_eq_none]
  have spacing := spacing_clear_iff (s := s)
  exact ⟨fun ⟨⟨⟨⟨⟨⟨⟨entry, running⟩, gate⟩, room⟩, clear⟩, sp⟩, flagged⟩, mem⟩ =>
      ⟨entry, running, gate, room, clear, spacing.mp sp, flagged, mem⟩,
    fun ⟨entry, running, gate, room, clear, sp, flagged, mem⟩ =>
      ⟨⟨⟨⟨⟨⟨⟨entry, running⟩, gate⟩, room⟩, clear⟩, spacing.mpr sp⟩, flagged⟩, mem⟩⟩

theorem judgeAdmission_of_not_ready (hh : s.board.head = some h) (hr : ¬LineReady s h) : judgeAdmission s = s := by
  unfold judgeAdmission
  simp only [hh]
  exact if_neg (mt mayAdmit_iff.mp hr)

theorem judgeAdmission_of_ready (hh : s.board.head = some h) (hr : LineReady s h) :
    judgeAdmission s = runEvents [] (openGate h s) := by
  unfold judgeAdmission
  simp only [hh]
  exact if_pos (mayAdmit_iff.mpr hr)

theorem judgeAdmission_of_no_head (hh : s.board.head = none) : judgeAdmission s = s := by
  unfold judgeAdmission
  simp only [hh]

/-- A judgement of admission that leaves the gate open found the line ready. -/
theorem lineReady_of_opened (hg : s.board.gate = none) (ho : (judgeAdmission s).board.gate ≠ none) :
    ∃ h, s.board.head = some h ∧ LineReady s h := by
  cases hh : s.board.head with
  | none => rw [judgeAdmission_of_no_head hh] at ho; exact absurd hg ho
  | some h =>
    by_cases hr : LineReady s h
    · exact ⟨h, rfl, hr⟩
    · rw [judgeAdmission_of_not_ready hh hr] at ho; exact absurd hg ho

/-! ### The commands that judge admission -/

/-- The state that a judgement of admission met, of which s is the command's start and t its end. -/
structure Judged (s v t : State) : Prop where
  loader : v.loader = s.loader
  counter : v.pos.counter = s.pos.counter
  queue : v.board.queue = s.board.queue
  expected : v.board.expected = s.board.expected
  gate : v.board.gate = s.board.gate
  spacing : v.board.spacing = s.board.spacing
  peers : t.link.peers = v.link.peers
  ends : t.loader = v.loader
  opened : (judgeAdmission v).board.gate ≠ none

/-- A frame received that leaves the gate open was a STATUS whose admission opened it. -/
theorem judged_of_receive {k : Kind} {f : Rx} {s : State} (hg : s.board.gate = none)
    (ho : (receive k f s).board.gate ≠ none) : ∃ v, Judged s v (receive k f s) ∧ v.board.admitFlag = s.board.admitFlag := by
  rcases receive_cases k f s with shut | ⟨ha, hl, hm, a, e⟩
  · exact absurd (shut.gate hg) ho
  · cases k with
    | status =>
      rw [e] at ho ⊢
      simp only [handleFrame, takeStatus, driveAnswer_board] at ho ⊢
      split at ho
      · rename_i hmem
        refine ⟨_, ⟨?_, ?_, ?_, ?_, ?_, ?_, ?_, ?_, ho⟩, ?_⟩
        case refine_7 => simp only [hmem, if_true, driveAnswer_link, judgeAdmission_peers]
        case refine_8 => simp only [hmem, if_true, driveAnswer_loader, judgeAdmission_loader]
        all_goals split <;> simp
      · refine absurd ?_ ho
        rw [formFan_board]
        split <;> simp [hg]
    | _ => exact absurd ((keepsShut_receive f s (by simp)).gate hg) ho

/-- The state that an expired status period gives to the judgement of admission (R15, R67). -/
def periodJudged (s : State) : State := reofferBlocked (queueStatus false { s with expiries :=
  { s.expiries with queued := withoutTimer .statusPeriod s.expiries.queued } })

theorem reofferBlocked_board (s : State) : ∃ o, (reofferBlocked s).board = { s.board with handoff := o } := by
  unfold reofferBlocked
  split
  · exact ⟨_, rfl⟩
  · split
    · exact ⟨_, rfl⟩
    · split
      · unfold offerBoard
        split
        · exact ⟨_, enqueue_board ..⟩
        · exact ⟨_, rfl⟩
      · exact ⟨_, rfl⟩

theorem queueStatus_board (m : Bool) (s : State) : (queueStatus m s).board = (computeBlockers s).board := by
  unfold queueStatus
  obtain ⟨e, h⟩ := overtake_eq .statusPeriod { enqueue .link allTarget (.status (gatherStatus m (computeBlockers s)))
    (computeBlockers s) with link := { (enqueue .link allTarget (.status (gatherStatus m (computeBlockers s)))
      (computeBlockers s)).link with statusAge := some 0 } }
  exact (congrArg (·.board) h).trans (enqueue_board ..)

theorem gated_reofferBlocked (s : State) : gated (reofferBlocked s) = gated s := by
  unfold reofferBlocked
  split
  · rfl
  · split
    · rfl
    · split
      · exact gated_of_calm (calm_offerBoard ..)
      · rfl

theorem gated_periodJudged (s : State) : gated (periodJudged s) = gated s := by
  unfold periodJudged
  rw [gated_reofferBlocked, gated_of_calm (calm_of_offAlarm (offAlarm_queueStatus false _))]; rfl

theorem judged_of_statusPeriod {s t : State} (he : exec .statusPeriod s = .next t) (hg : s.board.gate = none)
    (ho : t.board.gate ≠ none) : ∃ v, Judged s v t ∧ v.board.admitFlag = (s.running && blockersNow s == Blockers.empty) := by
  simp only [exec, execStatusPeriod] at he
  split at he
  · obtain rfl := Host.Outcome.next.inj he
    by_cases hl : OwnTimer.statusPeriod ∈ s.expiries.lapsed
    · rw [takeExpiry_void hl] at ho
      refine absurd ((keeps_finish _).gate ?_) ho
      exact hg
    · rw [takeExpiry_acts hl] at ho ⊢
      have unfolded (x : State) : statusPeriodOver x =
          formFan (judgeAdmission (reofferBlocked (queueStatus false x))) := rfl
      rw [unfolded] at ho ⊢
      obtain ⟨o, board⟩ := reofferBlocked_board (queueStatus false { s with expiries :=
        { s.expiries with queued := withoutTimer .statusPeriod s.expiries.queued } })
      rw [queueStatus_board] at board
      have opened : (judgeAdmission (periodJudged s)).board.gate ≠ none := fun shut =>
        ho ((keeps_finish _).gate (by rw [formFan_board]; exact shut))
      refine ⟨periodJudged s, ⟨?_, ?_, ?_, ?_, ?_, ?_, ?_, ?_, opened⟩, ?_⟩
      · exact eq_of_gated (·.loader) (fun _ => rfl) (gated_periodJudged s)
      · exact eq_of_gated (·.pos.counter) (fun _ => rfl) (gated_periodJudged s)
      · exact congrArg (·.queue) board
      · exact congrArg (·.expected) board
      · exact congrArg (·.gate) board
      · exact congrArg (·.spacing) board
      · rw [finish_peers, formFan_link, judgeAdmission_peers]; rfl
      · rw [finish_loader, formFan_loader, judgeAdmission_loader]; rfl
      · exact congrArg (·.admitFlag) board
  · obtain rfl := Host.Outcome.next.inj he
    exact absurd hg ho

theorem judged_of_finish {k : Kind} {f : Rx} {s : State} (hg : s.board.gate = none)
    (ho : (finish (receive k f s)).board.gate ≠ none) :
    ∃ v, Judged s v (finish (receive k f s)) ∧ v.board.admitFlag = s.board.admitFlag := by
  obtain ⟨v, j, flag⟩ := judged_of_receive hg fun shut => ho ((keeps_finish _).gate shut)
  exact ⟨v, { j with peers := (finish_peers _).trans j.peers, ends := (finish_loader _).trans j.ends }, flag⟩

/-- A frame read from the link other than one that its kind's own command takes. -/
def readsFrame (c : Instr) : Prop := (∃ f, c = .status f) ∨ (∃ raw, c = .badFrame raw) ∨
  (∃ k f, c = .numberConflict k f ∨ c = .frameNotTaken k f ∨ c = .frameAimedAtOtherStation k f)

/-- The gate opens by a judgement of admission alone. -/
theorem judged_of_opened {c : Instr} {s t : State} (he : exec c s = .next t) (hg : s.board.gate = none)
    (ho : t.board.gate ≠ none) :
    (c = .statusPeriod ∧ ∃ v, Judged s v t ∧ v.board.admitFlag = (s.running && blockersNow s == Blockers.empty)) ∨
    (readsFrame c ∧ ∃ v, Judged s v t ∧ v.board.admitFlag = s.board.admitFlag) := by
  have frame {k : Kind} {f : Rx} (e : Host.Outcome.next (finish (receive k f s)) = exec c s) :
      ∃ v, Judged s v t ∧ v.board.admitFlag = s.board.admitFlag := by
    obtain rfl := Host.Outcome.next.inj (e.trans he)
    exact judged_of_finish hg ho
  by_cases hj : judges c = true
  · cases c with
    | statusPeriod => exact .inl ⟨rfl, judged_of_statusPeriod he hg ho⟩
    | status f => exact .inr ⟨.inl ⟨f, rfl⟩, frame (k := .status) rfl⟩
    | numberConflict k f => exact .inr ⟨.inr (.inr ⟨k, f, .inl rfl⟩), frame (k := k) rfl⟩
    | frameNotTaken k f => exact .inr ⟨.inr (.inr ⟨k, f, .inr (.inl rfl)⟩), frame (k := k) rfl⟩
    | frameAimedAtOtherStation k f => exact .inr ⟨.inr (.inr ⟨k, f, .inr (.inr rfl)⟩), frame (k := k) rfl⟩
    | badFrame raw =>
      refine .inr ⟨.inr (.inl ⟨raw, rfl⟩), ?_⟩
      simp only [exec, execBadFrame] at he
      split at he
      · split at he
        · obtain rfl := Host.Outcome.next.inj he
          exact absurd hg ho
        · obtain rfl := Host.Outcome.next.inj he
          exact judged_of_finish hg ho
      · obtain rfl := Host.Outcome.next.inj he
        exact absurd hg ho
    | _ => cases hj
  · refine absurd ?_ ho
    have answer {P : State → Prop} (h : NextWith (exec c s) P) : P t := by
      obtain ⟨u, hu, hp⟩ := h
      exact Host.Outcome.next.inj (hu.symm.trans he) ▸ hp
    cases hc : movesCounter c
    · exact (answer (exec_kept c s hc)).2 (by simpa using hj) hg
    · cases c with
      | coldReset k =>
        rcases answer (exec_coldReset_cases k s) with ⟨u, rfl, _⟩ | ⟨mv, rfl, _⟩ | ⟨n, rfl⟩
        · exact rfl
        · exact hg
        · exact hg
      | resetRelease =>
        rcases answer (exec_resetRelease_cases s) with ⟨rfl, _⟩ | rfl
        · exact rfl
        · exact hg
      | encoderPulse b =>
        obtain ⟨_, _, _, _, k⟩ := exec_encoderPulse_kept b s
        exact (answer k).gate hg
      | _ => cases hc

end Sys2Proof.Machine
end

section
/-! The gate opened for the head (R58). -/
namespace Sys2Proof.Machine

theorem updateRecord_of_none {t : Tag} {q : List BoardRecord} (f : BoardRecord → BoardRecord) (h : findRecord t q = none) :
    updateRecord t f q = q := by
  refine (List.map_congr_left fun x hx => ?_).trans (List.map_id q)
  rw [if_neg (List.find?_eq_none.mp h x hx)]; rfl

/-- A change to a record just placed, where no other has its tag, is the changed record placed. -/
theorem updateRecord_placeRecord {t : Tag} {q : List BoardRecord} {r : BoardRecord} {f : BoardRecord → BoardRecord}
    (ht : r.tag = t) (hf : (f r).lead = r.lead) (h : findRecord t q = none) :
    updateRecord t f (placeRecord r q) = placeRecord (f r) q := by
  have hr : (r.tag == t) = true := by simp [ht]
  induction q with
  | nil => simp [updateRecord, placeRecord, ht]
  | cons x xs ih =>
    have tail := updateRecord_of_none f h
    have rest : findRecord t xs = none := by
      unfold findRecord at h ⊢
      exact List.find?_eq_none.mpr fun y hy => List.find?_eq_none.mp h y (List.mem_cons_of_mem _ hy)
    unfold placeRecord
    rw [hf]
    split
    · rw [updateRecord, List.map_cons, if_pos hr]
      exact congrArg _ tail
    · have head : (x.tag == t) ≠ true := List.find?_eq_none.mp h x (List.mem_cons_self ..)
      rw [updateRecord, List.map_cons, if_neg head]
      exact congrArg _ (ih rest)

/-- The gate opened and the head's record in the queue, before its deadline is inserted (R58). -/
def gateHeld (h : Expected) (s : State) : State :=
  { s with board := { s.board with
    queue := placeRecord (recordOf h) s.board.queue
    expected := s.board.expected.filter fun e => e.tag != h.tag
    gate := some h.tag } }

/-- The gate held open after the insertion of its ARRIVAL DEADLINE, whose schedule is given when it is INSERTED. -/
def gateDeadline (h : Expected) (s : State) : Option (List Event) → State
  | some l => { gateHeld h s with pos := { s.pos with schedule := l } }
  | none => addException h.tag xEventLost 1 (gateHeld h s)

theorem openGate_eq (h : Expected) (s : State) : openGate h s = enqueue .tracker allTarget (.admitted h.tag)
    (gateDeadline h s (scheduleInsert s.pos.counter ⟨h.tag, .arrivalDeadline, 0,
      offset s.pos.counter (s.cfg.geometry.gateDistance + s.cfg.geometry.arrivalTol)⟩ s.pos.schedule)) := by
  have unfolded : openGate h s = enqueue .tracker allTarget (.admitted h.tag) (insertEvent h.tag .arrivalDeadline 0
      (offset s.pos.counter (s.cfg.geometry.gateDistance + s.cfg.geometry.arrivalTol)) (gateHeld h s)).2 := rfl
  rw [unfolded]
  cases hi : scheduleInsert s.pos.counter ⟨h.tag, .arrivalDeadline, 0,
      offset s.pos.counter (s.cfg.geometry.gateDistance + s.cfg.geometry.arrivalTol)⟩ s.pos.schedule with
  | some l => rw [insertEvent_inserted (s := gateHeld h s) hi]; rfl
  | none => rw [insertEvent_refused (s := gateHeld h s) hi]; rfl

/-- What the opened gate writes whatever became of its deadline. -/
theorem gateDeadline_kept (h : Expected) (s : State) (i : Option (List Event)) :
    (gateDeadline h s i).board.gate = some h.tag ∧ (gateDeadline h s i).recipe = s.recipe ∧
      (gateDeadline h s i).alarm = s.alarm ∧ (gateDeadline h s i).pos.counter = s.pos.counter ∧
      (gateDeadline h s i).board.expected = s.board.expected.filter (fun e => e.tag != h.tag) ∧
      (gateDeadline h s i).link = s.link := by
  cases i <;> exact ⟨rfl, rfl, rfl, rfl, rfl, rfl⟩

end Sys2Proof.Machine
end

section
open Sys2Proof Sys2Proof.Machine

/-- Settles O25. -/
theorem gateOpensOnlyWhenTheLineIsReady : Obligations.GateOpensOnlyWhenTheLineIsReady := by
  refine ⟨fun c s t he hg ho => ?_, fun s hh => judgeAdmission_of_no_head hh, fun s h hh => ⟨fun hr => ⟨?_, fun hd => ?_⟩,
    fun hr => judgeAdmission_of_not_ready hh hr⟩, fun s h => ?_⟩
  · have judged := judged_of_opened he hg ho
    obtain ⟨v, j⟩ : ∃ v, Judged s v t := judged.elim (fun ⟨_, v, j, _⟩ => ⟨v, j⟩) fun ⟨_, v, j, _⟩ => ⟨v, j⟩
    have kinds : c = .statusPeriod ∨ readsFrame c := judged.imp And.left And.left
    have period : c = .statusPeriod → blockersNow s = Blockers.empty := by
      rintro rfl
      rcases judged with ⟨_, v, j, flag⟩ | ⟨k, _⟩
      · obtain ⟨_, _, _, _, _, _, _, _, admitted, _⟩ := lineReady_of_opened (j.gate.trans hg) j.opened
        rw [flag] at admitted
        simpa using (Bool.and_eq_true_iff.mp admitted).2
      · rcases k with ⟨_, k⟩ | ⟨_, k⟩ | ⟨_, _, k | k | k⟩ <;> cases k
    have stood : c ≠ .statusPeriod → s.board.admitFlag = true := fun hn => by
      rcases judged with ⟨k, _⟩ | ⟨_, v, j, flag⟩
      · exact absurd k hn
      · obtain ⟨_, _, _, _, _, _, _, _, admitted, _⟩ := lineReady_of_opened (j.gate.trans hg) j.opened
        exact flag ▸ admitted
    obtain ⟨h, head, entry, running, _, room, clear, spacing, _, members⟩ :=
      lineReady_of_opened (j.gate.trans hg) j.opened
    have cfg : v.cfg = s.cfg := by simp [State.cfg, j.loader]
    have me : v.me = s.me := by simp [State.me, j.loader]
    have meT : t.me = v.me := by simp [State.me, j.ends]
    refine ⟨kinds, j.loader ▸ running, cfg ▸ entry, j.queue ▸ room, j.queue ▸ clear, ?_, period, stood, h, ?_, ?_⟩
    · intro p hp
      have := spacing p (by rw [j.spacing]; exact hp)
      rwa [j.counter, cfg] at this
    · simpa [Tracker.head, j.expected] using head
    · intro n hn hm hne
      obtain ⟨p, hp, rest⟩ := members n hn (by rw [cfg]; exact hm) (by rw [me]; exact hne)
      refine ⟨p, ?_, rest⟩
      unfold peer at hp ⊢
      rw [meT, me, if_neg hne, j.peers]
      rwa [me, if_neg hne] at hp
  · exact judgeAdmission_of_ready hh hr
  · rw [judgeAdmission_of_ready hh hr]; exact runEvents_of_not_due hd
  · intro due r inserted u
    obtain ⟨gate, recipe, alarm, counter, expected, link⟩ := gateDeadline_kept h s inserted
    have opened : u = enqueue .tracker allTarget (.admitted h.tag) (gateDeadline h s inserted) := openGate_eq h s
    rw [opened]
    refine ⟨?_, ?_, ?_, ?_, ?_, ?_, fun l hl => ?_, fun hn => ⟨?_, fun hf => ?_⟩, fun hq => ?_⟩
    · rw [enqueue_board, gate]
    · rw [enqueue_recipe, recipe]
    · rw [enqueue_alarm, alarm]
    · rw [enqueue_counter, counter]
    · rw [enqueue_board, expected]
    · rw [enqueue_board, Tracker.head, expected]
    · rw [enqueue_board, enqueue_schedule, hl]; exact ⟨rfl, rfl⟩
    · rw [enqueue_schedule, hn]; rfl
    · rw [enqueue_board, hn]
      exact updateRecord_placeRecord rfl rfl hf
    · exact waits_enqueue_whole (fun z => by cases z <;> rfl) (by rw [link]; exact hq)

end

section
/-! A warm restart (R28, R30, R204): what it keeps and clears, and which codes stand after it. -/
namespace Sys2Proof.Machine

/-! ### No code in service -/

/-- No code is in service, and of the latched ones REVERSE TRAVEL alone may stand. -/
def ServiceFree (a : AlarmUnit) : Prop :=
  ∀ c, a.at c ≠ .inService ∧ (alarmLive c = false → c ≠ 36 → a.at c = .idle)

namespace ServiceFree
variable {a b : AlarmUnit} {c : Nat}

theorem of_place (h : ServiceFree a) (e : b.place = a.place) : ServiceFree b := by
  intro c
  have at_ : b.at c = a.at c := by simp [AlarmUnit.at, e]
  rw [at_]; exact h c

theorem move (h : ServiceFree a) {p : Place} (hp : p ≠ .inService)
    (hc : p = .idle ∨ alarmLive c = true ∨ c = 36) : ServiceFree (a.move c p) := by
  intro d
  rcases AlarmUnit.at_move_cases a c d p with e | ⟨rfl, e⟩
  · rw [e]; exact h d
  · rw [e]
    refine ⟨hp, fun latched other => ?_⟩
    rcases hc with rfl | live | rfl
    · rfl
    · rw [latched] at live; cases live
    · exact absurd rfl other

end ServiceFree

theorem ServiceFree.remark {s : State} (h : ServiceFree s.alarm) {c : Nat} (hc : alarmLive c = true) (g : Bool) :
    ServiceFree (remark c g s).alarm := by
  rw [remark_alarm]
  exact (h.move (c := c) (p := .pending g) nofun (.inr (.inl hc))).of_place rfl

theorem ServiceFree.reportLive {s : State} (h : ServiceFree s.alarm) {c : Nat} (hc : alarmLive c = true) (b : Bool) :
    ServiceFree (reportLive c b s).alarm := by
  have flagged (v : Bool) : ServiceFree (s.alarm.setFlag c v) := h.of_place rfl
  unfold Machine.reportLive
  split
  · exact h
  · split
    · unfold conditionStarts
      simp only []
      split
      · exact (flagged true).move nofun (.inr (.inl hc))
      · exact ServiceFree.remark (s := { s with alarm := s.alarm.setFlag c true }) (flagged true) hc false
      all_goals exact flagged true
    · unfold conditionEnds
      simp only []
      split
      · exact (flagged false).move nofun (.inl rfl)
      · exact ServiceFree.remark (s := { s with alarm := s.alarm.setFlag c false }) (flagged false) hc true
      · rename_i e; exact absurd e (h c).1
      all_goals exact flagged false

theorem ServiceFree.reportRecovery {s : State} (h : ServiceFree s.alarm) (c : Nat) (b : Bool) :
    ServiceFree (reportRecovery c b s).alarm := by
  have flagged (v : Bool) : ServiceFree (s.alarm.setFlag c v) := h.of_place rfl
  unfold Machine.reportRecovery
  split
  · exact h
  · split
    · exact flagged false
    · simp only []
      split
      · split
        · exact (flagged true).move nofun (.inl rfl)
        · exact flagged true
      · rename_i e; exact absurd e (h c).1
      all_goals exact flagged true

theorem ServiceFree.reportCode {s : State} (h : ServiceFree s.alarm) (c : Nat) : ServiceFree (reportCode c s).alarm := by
  unfold Machine.reportCode
  split
  · exact h.reportLive ‹_› _
  · split
    · exact h.reportRecovery _ _
    · exact h

/-- A picked code is requested, so it is LIVE or REVERSE TRAVEL where no other latched code stands. -/
theorem ServiceFree.announcePick {s : State} (h : ServiceFree s.alarm) {c : Nat}
    (hp : pickRequest s.cfg s.alarm = some c) : ServiceFree (announcePick c s).alarm := by
  have requested : s.alarm.at c = .request := by
    have := (pickRequest_spec hp).1
    simp only [candidates, List.mem_filter, Bool.and_eq_true, beq_iff_eq] at this
    exact this.2.1
  by_cases hl : levelOf c = 0
  · rw [alarm_announcePick_of_level0 hl]
    refine (h.move (c := c) (p := .idle) nofun (.inl rfl)).of_place ?_
    simp [AlarmUnit.strike, AlarmUnit.move, place_enter, AlarmUnit.pointPast]
  · rw [alarm_announcePick_of_level hl]
    refine (h.move (c := c) (p := .pending false) nofun ?_).of_place (place_enter ..)
    by_cases hc : alarmLive c = true
    · exact .inr (.inl hc)
    · by_cases h36 : c = 36
      · exact .inr (.inr h36)
      · have idle := (h c).2 (by simpa using hc) h36
        rw [requested] at idle; exact absurd idle nofun

/-- The end of a command puts no code in service, and no latched code in a set. -/
theorem ServiceFree.finish {s : State} (h : ServiceFree s.alarm) : ServiceFree (finish s).alarm :=
  finish_induction (P := fun s => ServiceFree s.alarm) (fun s h => by rw [deliverDropped_alarm]; exact h)
    (fun c _ h => h.reportCode c) (fun _ _ hp h => h.announcePick hp) h

/-! ### The reports that a warm restart makes -/

/-- No code is pending or in service. -/
def Unannounced (a : AlarmUnit) : Prop := ∀ c, a.at c = .idle ∨ a.at c = .request

theorem Unannounced.move {a : AlarmUnit} (h : Unannounced a) {c : Nat} {p : Place} (hp : p = .idle ∨ p = .request) :
    Unannounced (a.move c p) := by
  intro d
  rcases AlarmUnit.at_move_cases a c d p with e | ⟨_, e⟩
  · rw [e]; exact h d
  · rw [e]; exact hp

/-- The state with other alarm sets and condition flags. -/
def withSets (p : List Place) (f : List Bool) (s : State) : State :=
  { s with alarm := { s.alarm with place := p, flags := f } }

/-- A report of a code neither pending nor in service changes its set and its flag, and nothing else. -/
theorem reportCode_unannounced {s : State} (h : Unannounced s.alarm) (c : Nat) :
    ∃ p f, reportCode c s = withSets p f s ∧ Unannounced (reportCode c s).alarm := by
  have flagged (v : Bool) : Unannounced (s.alarm.setFlag c v) := h
  have same : ∃ p f, s = withSets p f s ∧ Unannounced s.alarm := ⟨s.alarm.place, s.alarm.flags, rfl, h⟩
  unfold reportCode
  split
  · unfold reportLive
    split
    · exact same
    · split
      · rcases h c with e | e
        · rw [conditionStarts_of_idle e]
          exact ⟨_, _, rfl, (flagged true).move (.inr rfl)⟩
        · rw [conditionStarts_of_standing (.inl e)]
          exact ⟨s.alarm.place, _, rfl, flagged true⟩
      · rcases h c with e | e
        · rw [conditionEnds_of_idle_or_gone (.inl e)]
          exact ⟨s.alarm.place, _, rfl, flagged false⟩
        · rw [conditionEnds_of_request e]
          exact ⟨_, _, rfl, (flagged false).move (.inl rfl)⟩
  · split
    · unfold reportRecovery
      split
      · exact same
      · split
        · exact ⟨s.alarm.place, _, rfl, flagged false⟩
        · rcases h c with e | e
          · rw [e]; exact ⟨s.alarm.place, _, rfl, flagged true⟩
          · rw [e]
            simp only []
            split
            · exact ⟨_, _, rfl, (flagged true).move (.inl rfl)⟩
            · exact ⟨s.alarm.place, _, rfl, flagged true⟩
    · exact same

theorem reportCodes_unannounced (l : List Nat) {s : State} (h : Unannounced s.alarm) :
    ∃ p f, reportCodes l s = withSets p f s ∧ Unannounced (reportCodes l s).alarm := by
  induction l generalizing s with
  | nil => exact ⟨s.alarm.place, s.alarm.flags, rfl, h⟩
  | cons c cs ih =>
    obtain ⟨p, f, e, hu⟩ := reportCode_unannounced h c
    obtain ⟨p', f', e', hu'⟩ := ih hu
    exact ⟨p', f', by rw [reportCodes, e', e]; rfl, hu'⟩

/-! ### What a warm restart writes -/

/-- Every block as the entry to JOINING of a warm restart leaves it, before its STATUS (R25, R30). -/
def rejoined (s : State) : State := startGrace (takeTanks (startPeriods (warmBlocks s)))

theorem rejoined_eq (s : State) : ∃ g z lo em, rejoined s = { startPeriods (warmBlocks s) with
    fume := { (startPeriods (warmBlocks s)).fume with grace := g, graceZero := z }
    flux := { (startPeriods (warmBlocks s)).flux with low := lo, empty := em } } := by
  unfold rejoined startGrace takeTanks
  split <;> split <;> exact ⟨_, _, _, _, rfl⟩

theorem raiseStanding_eq (l : List Nat) (a : AlarmUnit) : ∃ p, a.raiseStanding l = { a with place := p } := by
  induction l generalizing a with
  | nil => exact ⟨a.place, rfl⟩
  | cons c cs ih =>
    unfold AlarmUnit.raiseStanding
    split
    · exact ih (a.move c .request)
    · exact ih a

theorem ServiceFree.raiseStanding {a : AlarmUnit} (h : ServiceFree a) (l : List Nat) : ServiceFree (a.raiseStanding l) := by
  induction l generalizing a with
  | nil => exact h
  | cons c cs ih =>
    unfold AlarmUnit.raiseStanding
    refine ih ?_
    split
    · rename_i hc
      simp only [Bool.and_eq_true] at hc
      exact h.move nofun (.inr (.inl hc.1.1))
    · exact h

theorem reverseAgain_eq (s : State) : ∃ p, reverseAgain s = withSets p s.alarm.flags s := by
  unfold reverseAgain appearance AlarmUnit.appear
  split
  · split
    · split
      · exact ⟨s.alarm.place, rfl⟩
      · exact ⟨_, rfl⟩
    · exact ⟨s.alarm.place, rfl⟩
  · exact ⟨s.alarm.place, rfl⟩

theorem ServiceFree.reverseAgain {s : State} (h : ServiceFree s.alarm) : ServiceFree (reverseAgain s).alarm := by
  unfold Machine.reverseAgain
  split
  · rw [appearance_alarm]
    unfold AlarmUnit.appear
    split
    · split
      · exact h
      · exact h.move nofun (.inr (.inr rfl))
    · exact h
  · exact h

theorem at_warm (me : Nat) (a : AlarmUnit) (c : Nat) : (a.warm me).at c = .idle := by
  rw [AlarmUnit.at, AlarmUnit.warm, getD_replicate_same]

theorem rejoined_alarm (s : State) : (rejoined s).alarm = s.alarm.warm s.me := by
  obtain ⟨_, _, _, _, e⟩ := rejoined_eq s; rw [e]; rfl

/-- A warm restart queues its STATUS and changes then the alarm sets and the condition flags alone. -/
theorem warmRestart_eq (s : State) : ∃ p f, warmRestart s = withSets p f (queueStatus true (rejoined s)) := by
  have idle : Unannounced (queueStatus true (rejoined s)).alarm := fun c => by
    rw [queueStatus_alarm, rejoined_alarm]; exact .inl (at_warm ..)
  obtain ⟨p, f, e, _⟩ := reportCodes_unannounced (List.range 58) idle
  obtain ⟨p', e'⟩ := raiseStanding_eq (List.range 58) (syncAlarms (queueStatus true (rejoined s))).alarm
  obtain ⟨p'', e''⟩ := reverseAgain_eq (joinStanding (syncAlarms (queueStatus true (rejoined s))))
  refine ⟨p'', f, ?_⟩
  have start : warmRestart s = reverseAgain (joinStanding (syncAlarms (queueStatus true (rejoined s)))) := rfl
  rw [start, e'', joinStanding, e', syncAlarms, e]
  rfl

theorem ServiceFree.reportCodes {s : State} (h : ServiceFree s.alarm) (l : List Nat) :
    ServiceFree (reportCodes l s).alarm := by
  induction l generalizing s with
  | nil => exact h
  | cons c cs ih => exact ih (h.reportCode c)

theorem serviceFree_warmRestart (s : State) : ServiceFree (warmRestart s).alarm := by
  have idle : ServiceFree (queueStatus true (rejoined s)).alarm := fun c => by
    rw [queueStatus_alarm, rejoined_alarm, at_warm]; exact ⟨nofun, fun _ _ => rfl⟩
  have start : warmRestart s = reverseAgain (joinStanding (syncAlarms (queueStatus true (rejoined s)))) := rfl
  rw [start]
  unfold joinStanding syncAlarms
  generalize List.range 58 = codes
  exact ServiceFree.reverseAgain ((idle.reportCodes codes).raiseStanding codes)

/-- What a warm restart writes besides the alarm side is in `rejoined`. -/
theorem offAlarm_warmRestart (s : State) : offAlarm (warmRestart s) = offAlarm (rejoined s) := by
  obtain ⟨p, f, e⟩ := warmRestart_eq s
  rw [e, ← offAlarm_queueStatus true (rejoined s)]
  rfl

/-- At the end of a RESTART everything but the alarm side stands as `rejoined` left it. -/
theorem offAlarm_finish_restart (a : Answer) (s : State) :
    offAlarm (finish (driveAnswer a (warmRestart s))) = offAlarm (driveAnswer a (rejoined s)) := by
  have unbound : (driveAnswer a (warmRestart s)).board.handoff.bound = none := by
    have := congrArg (·.board.handoff.bound) (offAlarm_warmRestart s)
    obtain ⟨_, _, _, _, e⟩ := rejoined_eq s
    rw [e] at this
    exact this
  rw [offAlarm_finish unbound]
  exact congrArg (fun x : State => { x with link := { x.link with answer := a } }) (offAlarm_warmRestart s)

/-- The state at the end of a RESTART that is carried out. -/
def restarted (s : State) : State := finish (driveAnswer .accept (warmRestart s))

theorem restarted_kept {α : Type} (f : State → α) (hf : ∀ x, f (offAlarm x) = f x) (s : State) :
    f (restarted s) = f (driveAnswer .accept (rejoined s)) := by
  rw [← hf, restarted, offAlarm_finish_restart, hf]

theorem rejoined_kept {α : Type} {x : α} (f : State → α) (s : State)
    (hf : ∀ g z lo em, f (driveAnswer .accept { startPeriods (warmBlocks s) with
      fume := { (startPeriods (warmBlocks s)).fume with grace := g, graceZero := z }
      flux := { (startPeriods (warmBlocks s)).flux with low := lo, empty := em } }) = x) :
    f (driveAnswer .accept (rejoined s)) = x := by
  obtain ⟨g, z, lo, em, e⟩ := rejoined_eq s
  rw [e]; exact hf g z lo em

section
variable (s : State)

theorem restarted_loader : (restarted s).loader = { s.loader with station := .joining, roundCount := 0 } :=
  (restarted_kept (·.loader) (fun _ => rfl) s).trans (rejoined_kept _ s fun _ _ _ _ => rfl)

theorem restarted_link : (restarted s).link.answer = .accept ∧ (restarted s).link.peers = s.link.peers ∧
    (restarted s).link.badCount = s.link.badCount ∧ (restarted s).link.isolation = 0 :=
  ⟨(restarted_kept (·.link.answer) (fun _ => rfl) s).trans rfl,
    (restarted_kept (·.link.peers) (fun _ => rfl) s).trans (rejoined_kept (·.link.peers) s fun _ _ _ _ => rfl),
    (restarted_kept (·.link.badCount) (fun _ => rfl) s).trans (rejoined_kept (·.link.badCount) s fun _ _ _ _ => rfl),
    (restarted_kept (·.link.isolation) (fun _ => rfl) s).trans (rejoined_kept (·.link.isolation) s fun _ _ _ _ => rfl)⟩

theorem restarted_pos : (restarted s).pos = { s.pos with schedule := [], snapshot := (restarted s).pos.snapshot } := by
  have kept : { (restarted s).pos with snapshot := none } = { s.pos with schedule := [], snapshot := none } :=
    (restarted_kept (fun x => { x.pos with snapshot := none }) (fun _ => rfl) s).trans
      (rejoined_kept (fun x => { x.pos with snapshot := none }) s fun _ _ _ _ => rfl)
  exact congrArg (fun p : PosUnit => { p with snapshot := (restarted s).pos.snapshot }) kept

theorem restarted_board : (restarted s).board.expected = s.board.expected ∧ (restarted s).board.gate = none ∧
    (restarted s).board.spacing = none :=
  ⟨(restarted_kept (·.board.expected) (fun _ => rfl) s).trans (rejoined_kept (·.board.expected) s fun _ _ _ _ => rfl),
    (restarted_kept (·.board.gate) (fun _ => rfl) s).trans (rejoined_kept (·.board.gate) s fun _ _ _ _ => rfl),
    (restarted_kept (·.board.spacing) (fun _ => rfl) s).trans (rejoined_kept (·.board.spacing) s fun _ _ _ _ => rfl)⟩

theorem restarted_recipe : (restarted s).recipe = s.recipe.warm :=
  (restarted_kept (·.recipe) (fun _ => rfl) s).trans (rejoined_kept (·.recipe) s fun _ _ _ _ => rfl)

theorem restarted_allot : (restarted s).allot = { s.allot.warm with roundAge := some 0 } :=
  (restarted_kept (·.allot) (fun _ => rfl) s).trans (rejoined_kept (·.allot) s fun _ _ _ _ => rfl)

theorem restarted_channels : (restarted s).heat.channels = s.cfg.channels.map Channel.cold :=
  (restarted_kept (·.heat.channels) (fun _ => rfl) s).trans (rejoined_kept (·.heat.channels) s fun _ _ _ _ => rfl)

theorem restarted_flux : (restarted s).flux.series = none ∧ (restarted s).flux.noFlow = 0 :=
  ⟨(restarted_kept (·.flux.series) (fun _ => rfl) s).trans (rejoined_kept (·.flux.series) s fun _ _ _ _ => rfl),
    (restarted_kept (·.flux.noFlow) (fun _ => rfl) s).trans (rejoined_kept (·.flux.noFlow) s fun _ _ _ _ => rfl)⟩

theorem restarted_pot : (restarted s).pot.ring = s.pot.ring ∧ (restarted s).pot.budget = s.pot.budget ∧
    (restarted s).pot.feed = .ready :=
  ⟨(restarted_kept (·.pot.ring) (fun _ => rfl) s).trans (rejoined_kept (·.pot.ring) s fun _ _ _ _ => rfl),
    (restarted_kept (·.pot.budget) (fun _ => rfl) s).trans (rejoined_kept (·.pot.budget) s fun _ _ _ _ => rfl),
    (restarted_kept (·.pot.feed) (fun _ => rfl) s).trans (rejoined_kept (·.pot.feed) s fun _ _ _ _ => rfl)⟩

theorem restarted_fume : (restarted s).fume.det = Detector.cold ∧ (restarted s).fume.lost = 0 :=
  ⟨(restarted_kept (·.fume.det) (fun _ => rfl) s).trans (rejoined_kept (·.fume.det) s fun _ _ _ _ => rfl),
    (restarted_kept (·.fume.lost) (fun _ => rfl) s).trans (rejoined_kept (·.fume.lost) s fun _ _ _ _ => rfl)⟩

/-- After a RESTART no code is in service, and LIVE ones and REVERSE TRAVEL alone stand in a set. -/
theorem serviceFree_restarted : ServiceFree (restarted s).alarm :=
  ServiceFree.finish (s := driveAnswer .accept (warmRestart s)) (serviceFree_warmRestart s)

/-- The line alarm list and the selection pointers are those of the reset (R204). -/
theorem warmRestart_list : (warmRestart s).alarm.list = (s.alarm.warm s.me).list ∧
    (warmRestart s).alarm.rot = (s.alarm.warm s.me).rot := by
  obtain ⟨p, f, e⟩ := warmRestart_eq s
  rw [e, ← rejoined_alarm s, ← queueStatus_alarm (rejoined s) true]
  exact ⟨rfl, rfl⟩

end

theorem pendingCodes_of_unannounced {a : AlarmUnit} (h : Unannounced a) : a.pendingCodes = [] := by
  refine List.eq_nil_iff_forall_not_mem.mpr fun c hc => ?_
  obtain ⟨_, g, hg⟩ := AlarmUnit.mem_pendingCodes.mp hc
  rcases h c with e | e <;> rw [e] at hg <;> cases hg

/-- The STATUS that a warm restart queues, room given (R30). -/
theorem warmRestart_status {s : State} (h : (s.link.queue.filter (·.inTx)).length < 12) :
    ∃ e ∈ (warmRestart s).link.queue, e.inTx = false ∧ e.target = allTarget ∧ ∃ f, e.body = .status f ∧
      f.station = .joining ∧ f.pendingCount = 0 ∧ f.startMark = true := by
  obtain ⟨p, fl, e⟩ := warmRestart_eq s
  obtain ⟨g, z, lo, em, joined⟩ := rejoined_eq s
  have link : (warmRestart s).link = (queueStatus true (rejoined s)).link := by rw [e]; rfl
  have room : (rejoined s).link.queue.length < 12 := by
    rw [joined]
    show ((s.link.queue.filter (·.inTx)).map fun e => { e with orphan := true }).length < 12
    rwa [List.length_map]
  have station : (rejoined s).loader.station = .joining := by rw [joined]; rfl
  have idle : Unannounced (rejoined s).alarm := fun c => by rw [rejoined_alarm]; exact .inl (at_warm ..)
  obtain ⟨x, hx, waits, target, mark, body, _⟩ := queueStatus_waits true room
  refine ⟨x, by rw [link]; exact hx, waits, target, _, body, station, ?_, rfl⟩
  show (rejoined s).alarm.pendingCodes.length = 0
  rw [pendingCodes_of_unannounced idle]; rfl

end Sys2Proof.Machine
end

section
open Sys2Proof Sys2Proof.Machine

/-- Settles O23. -/
theorem restartBeginsJoiningAgain : Obligations.RestartBeginsJoiningAgain := by
  intro f s h hp
  have e : exec (.restart f) s = .next (finish (receive .restart f s)) := rfl
  rw [e, receive_aimedHere h (.inr hp) rfl]
  simp only [handleFrame, takeRestart, setIsolation_board]
  refine ⟨fun hq => ?_, fun hq => ?_⟩
  · rw [if_neg (by simpa using hq)]
  · rw [if_pos (by simp [hq])]
    obtain ⟨answer, peers, bad, isolation⟩ := restarted_link (setIsolation 0 s)
    obtain ⟨expected, gate, spacing⟩ := restarted_board (setIsolation 0 s)
    have pos := restarted_pos (setIsolation 0 s)
    have allot := restarted_allot (setIsolation 0 s)
    obtain ⟨series, noFlow⟩ := restarted_flux (setIsolation 0 s)
    obtain ⟨ring, budget, feed⟩ := restarted_pot (setIsolation 0 s)
    obtain ⟨det, lost⟩ := restarted_fume (setIsolation 0 s)
    obtain ⟨list, rot⟩ := warmRestart_list (setIsolation 0 s)
    simp only [setIsolation_pos, setIsolation_link, setIsolation_board, setIsolation_allot, setIsolation_pot] at *
    refine ⟨restarted (setIsolation 0 s), rfl, answer, ?_, by rw [pos], by rw [pos], by rw [pos], by rw [pos],
      by rw [pos], expected, gate, spacing, ?_, peers, bad, isolation, by rw [allot]; rfl, by rw [allot]; rfl,
      by rw [allot]; rfl, by rw [allot]; rfl, by rw [allot]; rfl, by rw [allot], ?_, series, noFlow, ring, budget, feed,
      det, lost, rfl, rfl, rfl, ?_, ?_, ?_, list, rot, serviceFree_restarted _, fun hl => ?_⟩
    · rw [restarted_loader, setIsolation_loader]
    · rw [restarted_recipe, setIsolation_recipe]; rfl
    · rw [restarted_channels, setIsolation_cfg]
    · show ((setIsolation 0 s).alarm.warm (setIsolation 0 s).me).list = _
      rw [setIsolation_alarm, setIsolation_me]; rfl
    · show ((setIsolation 0 s).alarm.warm (setIsolation 0 s).me).incomplete =
        (s.alarm.incomplete && ((setIsolation 0 s).alarm.warm (setIsolation 0 s).me).list != [])
      rw [setIsolation_alarm, setIsolation_me]
      cases hl : (s.alarm.warm s.me).list with
      | nil => exact congrArg (fun l : List LineEntry => s.alarm.incomplete && !l.isEmpty) hl
      | cons x xs => exact congrArg (fun l : List LineEntry => s.alarm.incomplete && !l.isEmpty) hl
    · show ((setIsolation 0 s).alarm.warm (setIsolation 0 s).me).flags = _
      rw [setIsolation_alarm]; rfl
    · obtain ⟨x, hx, waits, target, g, body, station, count, mark⟩ := warmRestart_status (s := setIsolation 0 s)
        (by rw [setIsolation_link]; exact hl)
      exact ⟨x, g, hx, waits, target, body, station, count, mark⟩

end

section
/-! Announcements in the line alarm list, and acknowledgements (R194 to R196, R199, R200). -/
namespace Sys2Proof.Machine

/-! ### The order of the list -/

/-- The list stands by level, highest first (R199). -/
def ByLevel (l : List LineEntry) : Prop := l.Pairwise fun x y => y.level ≤ x.level

/-- An entry in its place in a list that stands by level. -/
def placedLine (e : LineEntry) (l : List LineEntry) : List LineEntry :=
  l.filter (fun x => decide (e.level ≤ x.level)) ++ e :: l.filter (fun x => decide (x.level < e.level))

theorem placeLine_eq {e : LineEntry} {l : List LineEntry} (h : ByLevel l) : placeLine e l = placedLine e l := by
  induction l with
  | nil => rfl
  | cons x xs ih =>
    obtain ⟨head, tail⟩ := List.pairwise_cons.mp h
    unfold placeLine
    split
    · rename_i hx
      have lower : ∀ y ∈ x :: xs, y.level < e.level := fun y hy => by
        rcases List.mem_cons.mp hy with rfl | hy
        · exact hx
        · exact Nat.lt_of_le_of_lt (head y hy) hx
      rw [placedLine, List.filter_eq_nil_iff.mpr fun y hy => by simpa using lower y hy,
        List.filter_eq_self.mpr fun y hy => by simpa using lower y hy]
      rfl
    · rename_i hx
      rw [ih tail, placedLine, placedLine, List.filter_cons_of_pos (by simpa using hx),
        List.filter_cons_of_neg (by simpa using hx)]
      rfl

theorem byLevel_placedLine {e : LineEntry} {l : List LineEntry} (h : ByLevel l) : ByLevel (placedLine e l) := by
  have sorted (p : LineEntry → Bool) : ByLevel (l.filter p) := h.filter p
  refine List.pairwise_append.mpr ⟨sorted _, List.pairwise_cons.mpr ⟨fun y hy => ?_, sorted _⟩, fun x hx y hy => ?_⟩
  · have := (List.mem_filter.mp hy).2
    simp only [decide_eq_true_eq] at this
    omega
  · have hx := (List.mem_filter.mp hx).2
    simp only [decide_eq_true_eq] at hx
    rcases List.mem_cons.mp hy with rfl | hy
    · exact hx
    · have hy := (List.mem_filter.mp hy).2
      simp only [decide_eq_true_eq] at hy
      omega

/-! ### Which entry a full list gives up -/

/-- The lowest of some levels, as `lowestLevel` folds them. -/
theorem foldl_min_eq {x : Nat} {l : List Nat} {m : Option Nat} (hx : x ∈ l ∨ m = some x) (h : ∀ y ∈ l, x ≤ y)
    (hm : ∀ k, m = some k → x ≤ k) :
    l.foldl (fun m n => some (match m with | none => n | some k => min k n)) m = some x := by
  induction l generalizing m with
  | nil => exact hx.resolve_left nofun
  | cons z zs ih =>
    have hz : x ≤ z := h z (List.mem_cons_self ..)
    refine ih ?_ (fun y hy => h y (List.mem_cons_of_mem _ hy)) fun k hk => ?_
    · rcases hx with hx | rfl
      · rcases List.mem_cons.mp hx with rfl | hx
        · refine .inr ?_
          cases m with
          | none => rfl
          | some k => simp [hm k rfl]
        · exact .inl hx
      · exact .inr (by simp [hz])
    · obtain rfl := Option.some.inj hk
      cases m with
      | none => exact hz
      | some k => exact Nat.le_min.mpr ⟨hm k rfl, hz⟩

theorem lowestLevel_eq {p : LineEntry → Bool} {x : LineEntry} {l : List LineEntry} (hx : x ∈ l) (hp : p x = true)
    (h : ∀ y ∈ l, p y = true → x.level ≤ y.level) : lowestLevel p l = some x.level := by
  refine foldl_min_eq (.inl (List.mem_map.mpr ⟨x, List.mem_filter.mpr ⟨hx, hp⟩, rfl⟩)) (fun y hy => ?_) nofun
  obtain ⟨z, hz, rfl⟩ := List.mem_map.mp hy
  exact h z (List.mem_filter.mp hz).1 (List.mem_filter.mp hz).2

theorem lowestLevel_of_none {p : LineEntry → Bool} {l : List LineEntry} (h : ∀ y ∈ l, p y = false) :
    lowestLevel p l = none := by
  unfold lowestLevel
  rw [List.filter_eq_nil_iff.mpr fun y hy => by simp [h y hy]]
  rfl

/-- A lowest level found is that of an entry in the list. -/
theorem lowestLevel_ge {p : LineEntry → Bool} {l : List LineEntry} {n v : Nat} (h : ∀ y ∈ l, n ≤ y.level)
    (hv : lowestLevel p l = some v) : n ≤ v := by
  have fold : ∀ (l : List Nat) (m : Option Nat), (∀ k, m = some k → n ≤ k) → (∀ y ∈ l, n ≤ y) →
      ∀ v, l.foldl (fun m n => some (match m with | none => n | some k => min k n)) m = some v → n ≤ v := by
    intro l
    induction l with
    | nil => exact fun m hm _ v hv => hm v hv
    | cons z zs ih =>
      refine fun m hm hl => ih _ (fun k hk => ?_) fun y hy => hl y (List.mem_cons_of_mem _ hy)
      obtain rfl := Option.some.inj hk
      cases m with
      | none => exact hl z (List.mem_cons_self ..)
      | some k => exact Nat.le_min.mpr ⟨hm k rfl, hl z (List.mem_cons_self ..)⟩
  refine fold _ none nofun (fun y hy => ?_) v hv
  obtain ⟨x, hx, rfl⟩ := List.mem_map.mp hy
  exact h x (List.mem_filter.mp hx).1

theorem lastIndex_of_none {p : LineEntry → Bool} {l : List LineEntry} (i : Nat) (b : Option Nat)
    (h : ∀ y ∈ l, p y = false) : lastIndex p i b l = b := by
  induction l generalizing i with
  | nil => rfl
  | cons x xs ih =>
    rw [lastIndex, if_neg (by simp [h x (List.mem_cons_self ..)])]
    exact ih _ fun y hy => h y (List.mem_cons_of_mem _ hy)

theorem lastIndex_append {p : LineEntry → Bool} {pre post : List LineEntry} {x : LineEntry} (i : Nat) (b : Option Nat)
    (hx : p x = true) (h : ∀ y ∈ post, p y = false) : lastIndex p i b (pre ++ x :: post) = some (i + pre.length) := by
  induction pre generalizing i b with
  | nil =>
    rw [List.nil_append, lastIndex, if_pos hx, lastIndex_of_none _ _ h]
    rfl
  | cons y ys ih =>
    rw [List.cons_append, lastIndex, ih, List.length_cons]
    congr 1; omega

theorem eraseIdx_append_cons {α : Type} (pre post : List α) (x : α) : (pre ++ x :: post).eraseIdx pre.length = pre ++ post := by
  simp [List.eraseIdx_append_of_length_le]

section
variable {n : Nat} {pre post l : List LineEntry} {x : LineEntry}

/-- With an IN-SERVICE entry, the latest of the lowest level is given up. -/
theorem displaced_inService (hx : x.inService = true)
    (hl : ∀ y ∈ pre ++ x :: post, y.inService = true → x.level ≤ y.level)
    (hp : ∀ y ∈ post, y.inService = true → x.level < y.level) : displaced n (pre ++ x :: post) = some pre.length := by
  unfold displaced
  rw [lowestLevel_eq (p := (·.inService)) (List.mem_append_right _ (List.mem_cons_self ..)) hx hl]
  simp only []
  rw [lastIndex_append 0 none (by simp [hx]), Nat.zero_add]
  intro y hy
  by_cases hs : y.inService = true
  · have := hp y hy hs
    simp [Nat.ne_of_gt this]
  · simp [hs]

/-- Without one, the PENDING entry of the lowest level is, a gone one first, where that level is below the new one's. -/
theorem displaced_pending (hl : ∀ y ∈ pre ++ x :: post, y.inService = false ∧ x.level ≤ y.level) (hn : x.level < n)
    (hg : x.gone = true ∨ ∀ y ∈ pre ++ x :: post, y.level = x.level → y.gone = false)
    (hp : ∀ y ∈ post, y.level = x.level → x.gone = true ∧ y.gone = false) :
    displaced n (pre ++ x :: post) = some pre.length := by
  have hx := hl x (List.mem_append_right _ (List.mem_cons_self ..))
  have inPost {y : LineEntry} (hy : y ∈ post) : y ∈ pre ++ x :: post :=
    List.mem_append_right _ (List.mem_cons_of_mem _ hy)
  unfold displaced
  rw [lowestLevel_of_none fun y hy => (hl y hy).1, lowestLevel_eq (p := fun e => !e.inService)
    (List.mem_append_right _ (List.mem_cons_self ..)) (by simp [hx.1]) fun y hy _ => (hl y hy).2]
  simp only [hn, if_true]
  by_cases gone : x.gone = true
  · rw [lastIndex_append 0 none (by simp [hx.1, gone]), Nat.zero_add]
    intro y hy
    by_cases hv : y.level = x.level
    · simp [(hp y hy hv).2]
    · simp [hv]
  · have noneGone := hg.resolve_left gone
    rw [lastIndex_of_none 0 none fun y hy => by
      by_cases hv : y.level = x.level
      · simp [noneGone y hy hv]
      · simp [hv]]
    simp only []
    rw [lastIndex_append 0 none (by simp [hx.1]), Nat.zero_add]
    intro y hy
    have : y.level ≠ x.level := fun hv => gone (hp y hy hv).1
    simp [this]

/-- Nothing is given up for an announcement of no higher level than every PENDING entry. -/
theorem displaced_none (hl : ∀ y ∈ l, y.inService = false ∧ n ≤ y.level) : displaced n l = none := by
  unfold displaced
  rw [lowestLevel_of_none fun y hy => (hl y hy).1]
  simp only []
  split
  · rfl
  · rename_i v hv
    have := lowestLevel_ge (fun y hy => (hl y hy).2) hv
    rw [if_neg (by omega)]

end

/-! ### Entering an announcement -/

section
variable {a : AlarmUnit} {e : LineEntry}

theorem enter_listed (h : a.list.any (LineEntry.is e.origin e.code) = true) : a.enter e = { a with
    list := a.list.map fun x =>
      if x.is e.origin e.code then { x with inService := e.inService, gone := e.gone } else x } := if_pos h

theorem enter_room (h : a.list.any (LineEntry.is e.origin e.code) = false) (hl : a.list.length < 32) :
    a.enter e = { a with list := placeLine e a.list } := by
  unfold AlarmUnit.enter
  rw [if_neg (by simp [h]), if_pos hl]

theorem enter_displaced {i : Nat} (h : a.list.any (LineEntry.is e.origin e.code) = false) (hl : a.list.length = 32)
    (hd : displaced e.level a.list = some i) :
    a.enter e = { a with list := placeLine e (a.list.eraseIdx i), incomplete := true } := by
  unfold AlarmUnit.enter
  rw [if_neg (by simp [h]), if_neg (by omega), hd]

theorem enter_unlisted (h : a.list.any (LineEntry.is e.origin e.code) = false) (hl : a.list.length = 32)
    (hd : displaced e.level a.list = none) : a.enter e = { a with incomplete := true } := by
  unfold AlarmUnit.enter
  rw [if_neg (by simp [h]), if_neg (by omega), hd]

theorem mem_placeLine_self (e : LineEntry) (l : List LineEntry) : e ∈ placeLine e l := mem_placeLine.mpr (.inl rfl)

/-- The order by level is kept, whatever becomes of the announcement. -/
theorem byLevel_enter (h : ByLevel a.list) : ByLevel (a.enter e).list := by
  unfold AlarmUnit.enter
  split
  · refine List.pairwise_map.mpr (h.imp fun hxy => ?_)
    split <;> split <;> exact hxy
  · split
    · rw [placeLine_eq h]; exact byLevel_placedLine h
    · split
      · rename_i i _
        have fewer : ByLevel (a.list.eraseIdx i) := h.sublist (List.eraseIdx_sublist ..)
        rw [placeLine_eq fewer]; exact byLevel_placedLine fewer
      · exact h

end

/-! ### Acknowledgements -/

section
variable {c : Nat} {s : State}

theorem ackOwn_gone (h : s.alarm.at c = .pending true) (hl : alarmLive c = true) : ackOwn c s = clearCode c true s := by
  simp [ackOwn, h, hl]

theorem ackOwn_pending {g : Bool} (h : s.alarm.at c = .pending g) (hg : (alarmLive c && g) = false) :
    ackOwn c s = settleInService c (joinInService c s) := by
  simp [ackOwn, h, hg]

theorem ackOwn_of_not_pending (h : ∀ g, s.alarm.at c ≠ .pending g) : ackOwn c s = s := by
  unfold ackOwn
  split
  · exact absurd ‹_› (h _)
  all_goals rfl

/-- A code joins the in-service set, OVERTEMP with its recovery flag clear. -/
theorem joinInService_alarm_eq (c : Nat) (s : State) : (joinInService c s).alarm =
    if inLimits 18 c 23 then (s.alarm.move c .inService).setFlag c false else s.alarm.move c .inService := by
  unfold joinInService
  simp only []
  split <;> rfl

theorem at_joinInService (h : c < s.alarm.place.length) : (joinInService c s).alarm.at c = .inService := by
  rw [joinInService_alarm_eq]
  split <;> exact AlarmUnit.at_move h

theorem not_overtemp_iff : inLimits 18 c 23 = false ↔ ¬(18 ≤ c ∧ c ≤ 23) := inLimits_eq_false_iff.trans (by omega)

theorem channel_modChannel (k : Nat) (f : Channel → Channel) (s : State) :
    channel (modChannel k f s) k = (channel s k).map f := by
  simp [channel, modChannel]

/-- The highest of some levels, as `highestPending` folds them. -/
theorem highestPending_eq {a : AlarmUnit} {g : Bool} (hc : c < 64) (hp : a.at c = .pending g)
    (h : ∀ d g, d < 64 → d ≠ c → a.at d = .pending g → levelOf d < levelOf c) : a.highestPending = some (levelOf c) := by
  obtain ⟨l, hl, above⟩ := AlarmUnit.levelOf_le_highestPending hc ⟨g, hp⟩
  rcases mem_of_foldl_max hl with start | mem
  · cases start
  · obtain ⟨d, hd, rfl⟩ := List.mem_map.mp mem
    obtain ⟨hd, g', hg'⟩ := AlarmUnit.mem_pendingCodes.mp hd
    by_cases e : d = c
    · rw [hl, e]
    · have := h d g' hd e hg'; omega

theorem highestOwn_eq {a : AlarmUnit} {g : Bool} (hc : c < 64) (hp : a.at c = .pending g)
    (h : ∀ d g, d < 64 → d ≠ c → a.at d = .pending g → levelOf d < levelOf c) : highestOwn a = some c := by
  unfold highestOwn
  rw [highestPending_eq hc hp h]
  simp only []
  cases hf : a.pendingCodes.find? (fun d => levelOf d == levelOf c) with
  | none =>
    have := List.find?_eq_none.mp hf c (AlarmUnit.mem_pendingCodes.mpr ⟨hc, g, hp⟩)
    simp at this
  | some d =>
    have level : levelOf d = levelOf c := by simpa using List.find?_some hf
    obtain ⟨hd, g', hg'⟩ := AlarmUnit.mem_pendingCodes.mp (List.mem_of_find?_eq_some hf)
    by_cases e : d = c
    · rw [e]
    · have := h d g' hd e hg'; omega

theorem highestOwn_of_none {a : AlarmUnit} (h : ∀ c g, c < 64 → a.at c ≠ .pending g) : highestOwn a = none := by
  have none : a.pendingCodes = [] := by
    refine List.eq_nil_iff_forall_not_mem.mpr fun c hc => ?_
    obtain ⟨hc, g, hg⟩ := AlarmUnit.mem_pendingCodes.mp hc
    exact h c g hc hg
  unfold highestOwn AlarmUnit.highestPending
  rw [none]; rfl

/-- A non-specific acknowledgement, by what the list and the sets hold (R195). -/
theorem applyAck_none (o : Nat) (s : State) : applyAck o none s =
    let s1 := match s.alarm.highestListed o with
      | some c => { s with alarm := s.alarm.listAck o c }
      | none => s
    if o = s.me then (match highestOwn s.alarm with | some c => ackOwn c s1 | none => s1) else s1 := by
  unfold applyAck
  rfl

/-- A non-specific acknowledgement whose part in the list has given u: the own code of the highest level is acknowledged
next (R195). -/
theorem applyAck_none_cases {o : Nat} {s u : State} (hu : (match s.alarm.highestListed o with
      | some c => { s with alarm := s.alarm.listAck o c }
      | none => s) = u) :
    (o ≠ s.me → applyAck o none s = u) ∧
    (∀ c g, o = s.me → c < 64 → s.alarm.at c = .pending g →
      (∀ d h, d < 64 → d ≠ c → s.alarm.at d = .pending h → levelOf d < levelOf c) → applyAck o none s = ackOwn c u) ∧
    (o = s.me → (∀ c g, c < 64 → s.alarm.at c ≠ .pending g) → applyAck o none s = u) := by
  rw [applyAck_none]
  simp only [hu]
  refine ⟨fun ho => if_neg ho, fun c g ho hc hp hh => ?_, fun ho hn => ?_⟩
  · rw [if_pos ho, highestOwn_eq hc hp hh]
  · rw [if_pos ho, highestOwn_of_none hn]

theorem highestListed_eq {o : Nat} {pre post : List LineEntry} {e : LineEntry} (hl : s.alarm.list = pre ++ e :: post)
    (ho : e.origin = o) (hs : e.inService = false) (hp : ∀ x ∈ pre, x.origin = o → x.inService = true) :
    s.alarm.highestListed o = some e.code := by
  have skip : pre.find? (fun e => e.origin == o && !e.inService) = none :=
    List.find?_eq_none.mpr fun x hx => by
      by_cases hxo : x.origin = o
      · simp [hp x hx hxo]
      · simp [hxo]
  unfold AlarmUnit.highestListed
  rw [hl, List.find?_append, skip]
  simp [ho, hs]

theorem highestListed_of_none {o : Nat} (h : ∀ e ∈ s.alarm.list, e.origin = o → e.inService = true) :
    s.alarm.highestListed o = none := by
  unfold AlarmUnit.highestListed
  rw [List.find?_eq_none.mpr]
  · rfl
  · intro x hx
    by_cases hxo : x.origin = o
    · simp [h x hx hxo]
    · simp [hxo]

/-- Where one entry of an origin has the code, an acknowledgement puts it in service and leaves the others. -/
theorem listAck_eq {o : Nat} {pre post : List LineEntry} {e : LineEntry} (hl : s.alarm.list = pre ++ e :: post)
    (ho : e.origin = o) (hs : e.inService = false) (hc : ∀ x ∈ pre ++ post, x.origin = o → x.code ≠ e.code) :
    s.alarm.listAck o e.code = { s.alarm with list := pre ++ { e with inService := true } :: post } := by
  have same (l : List LineEntry) (h : ∀ x ∈ l, x.origin = o → x.code ≠ e.code) :
      l.map (fun x => if x.is o e.code && !x.inService then { x with inService := true } else x) = l := by
    refine (List.map_congr_left fun x hx => ?_).trans (List.map_id l)
    rw [if_neg]
    · rfl
    · by_cases hxo : x.origin = o
      · simp [LineEntry.is, h x hx hxo]
      · simp [LineEntry.is, hxo]
  unfold AlarmUnit.listAck
  rw [hl, List.map_append, List.map_cons, same pre fun x hx => hc x (List.mem_append_left _ hx),
    same post fun x hx => hc x (List.mem_append_right _ hx), if_pos (by simp [LineEntry.is, ho, hs])]

end

end Sys2Proof.Machine
end

section
open Sys2Proof Sys2Proof.Machine

/-- Settles O15. -/
theorem lineListTakesAnAnnouncement : Obligations.LineListTakesAnAnnouncement := by
  refine ⟨fun a e hl => ⟨length_enter hl, fun h => ?_, fun h hr => ?_, fun h hf => ?_, byLevel_enter⟩,
    fun a e hl hs h => ⟨fun hr => ?_, fun pre x post hf split hx hlow hpost => ?_,
      fun pre x post hf split hlow hlv hg hpost => ?_, fun hf hlow => ?_⟩⟩
  · rw [enter_listed h]; exact ⟨rfl, rfl⟩
  · rw [enter_room h hr]; exact ⟨mem_placeLine_self .., by simp, rfl⟩
  · cases hd : displaced e.level a.list with
    | some i => rw [enter_displaced h hf hd]
    | none => rw [enter_unlisted h hf hd]
  · rw [enter_room h hr]; exact placeLine_eq hs
  · have given : displaced e.level a.list = some pre.length := by
      rw [split] at hlow ⊢
      exact displaced_inService hx hlow hpost
    rw [enter_displaced h hf given, split, eraseIdx_append_cons]
    have fewer : ByLevel (pre ++ post) := by
      rw [split] at hs
      exact hs.sublist ((List.sublist_cons_self ..).append_left pre)
    exact placeLine_eq fewer
  · have given : displaced e.level a.list = some pre.length := by
      rw [split] at hlow hg ⊢
      exact displaced_pending hlow hlv hg hpost
    rw [enter_displaced h hf given, split, eraseIdx_append_cons]
    have fewer : ByLevel (pre ++ post) := by
      rw [split] at hs
      exact hs.sublist ((List.sublist_cons_self ..).append_left pre)
    exact placeLine_eq fewer
  · rw [enter_unlisted h hf (displaced_none hlow)]

/-- Settles O14. -/
theorem acknowledgementMovesTheCode : Obligations.AcknowledgementMovesTheCode := by
  refine ⟨fun c s hl => ⟨fun hp live => ?_, fun hp live => ?_, fun hp live hr => ?_, fun hp live hr => ?_,
    fun hp live hr ot => ?_, ackOwn_of_not_pending⟩, fun c g s hlo hhi hl hp => ?_, fun o c s => ?_,
    fun o s pre e post split ho hs hpre hcode => ⟨fun sorted => ?_, ?_⟩, fun o s h => ?_⟩
  · rw [ackOwn_pending hp (by simp), settleInService, if_pos live]; exact at_joinInService hl
  · rw [ackOwn_gone hp live, clearCode_alarm]; exact AlarmUnit.at_move_idle
  · rw [ackOwn_pending hp (by simp), settleInService, if_neg (by simp [live]), hr]; exact at_leaveInService ..
  · rw [ackOwn_pending hp (by simp), settleInService, if_neg (by simp [live]), hr]; exact at_joinInService hl
  · have joined := joinInService_alarm_eq c s
    rw [if_neg (by rw [not_overtemp_iff.mpr ot]; simp)] at joined
    have flag : (joinInService c s).alarm.flag c = s.alarm.flag c := by rw [joined]; rfl
    rw [ackOwn_pending hp (by simp), settleInService, if_neg (by simp [live]), hr]
    simp only [flag]
    split
    · exact at_leaveInService ..
    · exact at_joinInService hl
  · have ot : inLimits 18 c 23 = true := inLimits_eq_true_iff.mpr ⟨hlo, hhi⟩
    have latched : alarmLive c = false := by
      refine Classical.byContradiction fun live => ?_
      have := not_overtemp_of_live (by simpa using live)
      rw [ot] at this; cases this
    have recovers : alarmRecovery c = .condition := by
      obtain rfl | rfl | rfl | rfl | rfl | rfl : c = 18 ∨ c = 19 ∨ c = 20 ∨ c = 21 ∨ c = 22 ∨ c = 23 := by omega
      all_goals decide
    have joined := joinInService_alarm_eq c s
    rw [if_pos ot] at joined
    have clear : (joinInService c s).alarm.flag c = false := by rw [joined]; exact AlarmUnit.flag_setFlag_false
    have stays : ackOwn c s = joinInService c s := by
      rw [ackOwn_pending hp (by simp [latched]), settleInService, if_neg (by simp [latched]), recovers]
      simp [clear]
    rw [stays]
    refine ⟨at_joinInService hl, clear, fun ch hch => ?_⟩
    unfold joinInService
    simp only [ot, if_true]
    rw [channel_modChannel]
    exact congrArg (Option.map fun ch : Channel => { ch with cool := false }) hch
  · have mapped : s.alarm.listAck o c = { s.alarm with list := s.alarm.list.map fun e =>
        if e.origin = o ∧ e.code = c ∧ e.inService = false then { e with inService := true } else e } := by
      unfold AlarmUnit.listAck
      refine congrArg (fun l => { s.alarm with list := l }) (List.map_congr_left fun x _ => ?_)
      simp [LineEntry.is, and_assoc]
    unfold applyAck
    simp only [mapped]
  · intro x hx hxo hxs
    rw [split] at sorted hx
    obtain ⟨_, rest, _⟩ := List.pairwise_append.mp sorted
    rcases List.mem_append.mp hx with hx | hx
    · rw [hpre x hx hxo] at hxs; cases hxs
    · rcases List.mem_cons.mp hx with rfl | hx
      · exact Nat.le_refl _
      · exact (List.pairwise_cons.mp rest).1 x hx
  · refine applyAck_none_cases ?_
    rw [highestListed_eq split ho hs hpre]
    simp only [listAck_eq split ho hs hcode]
  · refine applyAck_none_cases ?_
    rw [highestListed_of_none h]

end

section
/-! Positions, the encoder, the board sensors and the event schedule (R31 to R41). -/
namespace Sys2Proof.Machine

/-! ### Comparing positions (R34) -/

theorem toNat_pos_sub (c p : Pos) : (c - p).toNat = (c.toNat + 2 ^ 24 - p.toNat) % 2 ^ 24 := by
  rw [BitVec.toNat_sub]
  have := p.isLt
  congr 1; omega

theorem reached_iff {c p : Pos} : reached c p = true ↔ behind c p < 2 ^ 23 := by simp [reached, behind]

theorem behind_add_ahead (c p : Pos) : behind c p = 0 ∨ behind c p + ahead c p = 2 ^ 24 := by
  unfold behind ahead
  rw [toNat_pos_sub, toNat_pos_sub]
  have := c.isLt
  have := p.isLt
  omega

/-- Where a position stands among all, by the counter: the one reached earlier, or to be reached earlier, first. -/
def rank (c p : Pos) : Nat := if behind c p < 2 ^ 23 then 2 ^ 23 - behind c p else 2 ^ 23 + ahead c p

theorem before_iff {c a b : Pos} : before c a b = true ↔ rank c a < rank c b := by
  have ha := behind_add_ahead c a
  have hb := behind_add_ahead c b
  have small : ∀ p, ahead c p < 2 ^ 24 ∧ behind c p < 2 ^ 24 := fun p => ⟨(p - c).isLt, (c - p).isLt⟩
  have := small a
  have := small b
  unfold before rank
  simp only [reached_iff]
  by_cases ra : behind c a < 2 ^ 23 <;> by_cases rb : behind c b < 2 ^ 23 <;>
    simp only [ra, rb, if_true, if_false, decide_eq_true_eq, Bool.false_eq_true, true_iff, false_iff] <;> omega

theorem before_eq_false_iff {c a b : Pos} : before c a b = false ↔ rank c b ≤ rank c a := by
  rw [Bool.eq_false_iff, Ne, before_iff, Nat.not_lt]

theorem reached_self (c : Pos) : reached c c = true := by simp [reached]

theorem reachedBy_self (c : Pos) : reachedBy c c 0 = true := by simp [reachedBy, reached_self]

/-! ### The event schedule (R38, R39) -/

/-- An entry is placed after every entry due no later and before every entry due later. -/
theorem placeEvent_split (c : Pos) (e : Event) (l : List Event) : ∃ pre post, placeEvent c e l = pre ++ e :: post ∧
    pre ++ post = l ∧ (∀ x ∈ pre, before c e.due x.due = false) ∧
    (l.Pairwise (fun x y => before c y.due x.due = false) → ∀ x ∈ post, before c e.due x.due = true) := by
  induction l with
  | nil => exact ⟨[], [], rfl, rfl, by simp, by simp⟩
  | cons x xs ih =>
    by_cases hx : before c e.due x.due = true
    · refine ⟨[], x :: xs, by rw [placeEvent, if_pos hx]; rfl, rfl, by simp, fun sorted y hy => ?_⟩
      rcases List.mem_cons.mp hy with rfl | hy
      · exact hx
      · have later := (List.pairwise_cons.mp sorted).1 y hy
        rw [before_iff] at hx ⊢
        rw [before_eq_false_iff] at later
        omega
    · obtain ⟨pre, post, placed, split, early, late⟩ := ih
      refine ⟨x :: pre, post, by rw [placeEvent, if_neg hx, placed]; rfl, by rw [List.cons_append, split], ?_,
        fun sorted => late (List.pairwise_cons.mp sorted).2⟩
      intro y hy
      rcases List.mem_cons.mp hy with rfl | hy
      · simpa using hx
      · exact early y hy

/-- An entry placed keeps the order by due position. -/
theorem sorted_placed {c : Pos} {e : Event} {pre post : List Event}
    (sorted : (pre ++ post).Pairwise (fun x y => before c y.due x.due = false))
    (early : ∀ x ∈ pre, before c e.due x.due = false) (late : ∀ x ∈ post, before c e.due x.due = true) :
    (pre ++ e :: post).Pairwise (fun x y => before c y.due x.due = false) := by
  obtain ⟨front, back, across⟩ := List.pairwise_append.mp sorted
  refine List.pairwise_append.mpr ⟨front, List.pairwise_cons.mpr ⟨fun y hy => ?_, back⟩, fun x hx y hy => ?_⟩
  · have := late y hy
    rw [before_iff] at this
    rw [before_eq_false_iff]; omega
  · rcases List.mem_cons.mp hy with rfl | hy
    · exact early x hx
    · exact across x hx y hy

/-- An insertion places the entry among the entries of other keys. -/
theorem scheduleInsert_eq_some {c : Pos} {e : Event} {l l' : List Event} (h : scheduleInsert c e l = some l') :
    l' = placeEvent c e (l.filter fun x => !e.sameKey x) := by
  unfold scheduleInsert at h
  split at h
  · exact (Option.some.inj h).symm
  · rename_i ha
    split at h
    · rw [List.filter_eq_self.mpr]
      · exact (Option.some.inj h).symm
      · simpa using ha
    · cases h

/-! ### Exceptions of a record (R53) -/

theorem mem_addException {e : BoardException} {r : BoardRecord} (h : r.exceptions.length < 6) :
    e ∈ (r.addException e).exceptions := by
  unfold BoardRecord.addException
  split
  · assumption
  · simp

theorem mem_addException_of_mem {e x : BoardException} {r : BoardRecord} (h : x ∈ r.exceptions) :
    x ∈ (r.addException e).exceptions := by
  unfold BoardRecord.addException
  split
  · exact h
  · split
    · exact List.mem_append_left _ h
    · exact h

theorem length_addException_le (e : BoardException) (r : BoardRecord) :
    (r.addException e).exceptions.length ≤ r.exceptions.length + 1 := by
  unfold BoardRecord.addException
  split
  · omega
  · split
    · simp
    · simp

theorem findRecord_addException {t : Tag} {s : State} {b : BoardRecord} (c q : Nat)
    (h : findRecord t s.board.queue = some b) :
    findRecord t (addException t c q s).board.queue = some (b.addException ⟨c, q, s.me⟩) := by
  unfold addException
  rw [findRecord_updateRecord (fun r => addException_tag ..), h]; rfl

theorem markHandled_board (t : Tag) (s : State) : (markHandled t s).board = s.board := by
  unfold markHandled; split <;> rfl

theorem markHandled_pos (t : Tag) (s : State) : (markHandled t s).pos = s.pos := by
  unfold markHandled; split <;> rfl

theorem mem_handled_markHandled (t : Tag) (s : State) : t ∈ (markHandled t s).flux.handled := by
  unfold markHandled
  split
  · rename_i h; simpa using h
  · simp

theorem refusedKind_pos (t : Tag) (k : EventKind) (s : State) : (refusedKind t k s).pos = s.pos := by
  unfold refusedKind
  split
  · split
    · rfl
    · rw [markHandled_pos]; rfl
  all_goals rfl

/-- A refusal leaves the EVENT LOST added and adds what the owner of the kind adds (R40). -/
theorem findRecord_refusedKind {t : Tag} {s : State} {b : BoardRecord} (k : EventKind)
    (h : findRecord t s.board.queue = some b) : ∃ b', findRecord t (refusedKind t k s).board.queue = some b' ∧
      (∀ x ∈ b.exceptions, x ∈ b'.exceptions) ∧
      (k = .waveRaise → b.exceptions.length < 6 → (⟨xWaveLow, 0, s.me⟩ : BoardException) ∈ b'.exceptions) ∧
      (k = .fluxStart → t ∉ s.flux.handled → b.exceptions.length < 6 →
        (⟨xFluxSkipped, 0, s.me⟩ : BoardException) ∈ b'.exceptions ∧ t ∈ (refusedKind t k s).flux.handled) := by
  have unchanged (hk : k ≠ .waveRaise) (hf : k ≠ .fluxStart) (e : refusedKind t k s = s) :
      ∃ b', findRecord t (refusedKind t k s).board.queue = some b' ∧ (∀ x ∈ b.exceptions, x ∈ b'.exceptions) ∧
      (k = .waveRaise → b.exceptions.length < 6 → (⟨xWaveLow, 0, s.me⟩ : BoardException) ∈ b'.exceptions) ∧
      (k = .fluxStart → t ∉ s.flux.handled → b.exceptions.length < 6 →
        (⟨xFluxSkipped, 0, s.me⟩ : BoardException) ∈ b'.exceptions ∧ t ∈ (refusedKind t k s).flux.handled) :=
    ⟨b, by rw [e]; exact h, fun _ hx => hx, fun g => absurd g hk, fun g => absurd g hf⟩
  cases k with
  | waveRaise =>
    exact ⟨_, findRecord_addException xWaveLow 0 h, fun _ hx => mem_addException_of_mem hx,
      fun _ hl => mem_addException hl, nofun⟩
  | fluxStart =>
    by_cases hh : s.flux.handled.contains t = true
    · have e : refusedKind t .fluxStart s = s := if_pos hh
      exact ⟨b, by rw [e]; exact h, fun _ hx => hx, nofun, fun _ g => absurd (by simpa using hh) g⟩
    · have e : refusedKind t .fluxStart s = markHandled t (addException t xFluxSkipped 0 s) := if_neg hh
      rw [e, markHandled_board]
      exact ⟨_, findRecord_addException xFluxSkipped 0 h, fun _ hx => mem_addException_of_mem hx, nofun,
        fun _ _ hl => ⟨mem_addException hl, mem_handled_markHandled ..⟩⟩
  | _ => exact unchanged nofun nofun rfl

/-! ### The run of a lone edge or a lone due entry (R36, R41) -/

theorem runEvents_of_not_running (es : List Edge) {s : State} (h : s.running = false) : runEvents es s = s :=
  if_neg (by simp [h])

theorem runEvents_of_running (es : List Edge) {s : State} (h : s.running = true) :
    runEvents es s = runSchedule 256 es s := if_pos h

theorem runSchedule_idle {n : Nat} {es : List Edge} {s : State} (h : waiting es s = 0) : runSchedule n es s = s := by
  cases n with
  | zero => rfl
  | succ n => exact if_pos h

/-- One thing waits before and after what came before it is reported: it is handed over. -/
theorem runSchedule_one {n : Nat} {es : List Edge} {s : State} (h : waiting es s = 1) (h' : waiting es (finish s) = 1) :
    runSchedule (n + 1) es s = runSchedule n (handOver es (finish s)).1 (handOver es (finish s)).2 := by
  rw [runSchedule]
  simp only [h, h', Nat.one_ne_zero, if_false]

theorem handOver_edge {e : Edge} {s : State} (h : waiting [e] s = 1) : handOver [e] s = ([], deliverEdge e s) := by
  unfold handOver freeIndex
  rw [h]; rfl

theorem handOver_head {s : State} (h : waiting [] s = 1) : handOver [] s = ([], fireHead s) := by
  unfold handOver freeIndex
  rw [h]; rfl

theorem fireHead_cons {s : State} {x : Event} {xs : List Event} (h : s.pos.schedule = x :: xs) :
    fireHead s = fireEvent x { s with pos := { s.pos with schedule := xs } } := by
  unfold fireHead; rw [h]

/-! ### The encoder and the sensors -/

theorem dropSpacing_eq (s : State) : ∃ sp, dropSpacing s = { s with board := { s.board with spacing := sp } } := by
  unfold dropSpacing
  split
  · split
    · exact ⟨_, rfl⟩
    · exact ⟨s.board.spacing, rfl⟩
  · exact ⟨s.board.spacing, rfl⟩

@[simp] theorem dropSpacing_pos (s : State) : (dropSpacing s).pos = s.pos := by obtain ⟨_, e⟩ := dropSpacing_eq s; rw [e]

@[simp] theorem setSensorPin_pos (w : Sensor) (b : Bool) (s : State) : (setSensorPin w b s).pos = s.pos := by cases w <;> rfl
@[simp] theorem setSensorPin_cfg (w : Sensor) (b : Bool) (s : State) : (setSensorPin w b s).cfg = s.cfg := by cases w <;> rfl
@[simp] theorem sensorOf_setSensorPin (w v : Sensor) (b : Bool) (s : State) :
    sensorOf w (setSensorPin v b s) = sensorOf w s := by cases w <;> cases v <;> rfl
@[simp] theorem sensorOf_setSensor (w : Sensor) (st : SensorState) (s : State) : sensorOf w (setSensor w st s) = st := by
  cases w <;> rfl
@[simp] theorem setSensor_counter (w : Sensor) (st : SensorState) (s : State) :
    (setSensor w st s).pos.counter = s.pos.counter := by cases w <;> rfl
@[simp] theorem sensorOf_finish (w : Sensor) (s : State) : sensorOf w (finish s) = sensorOf w s := by
  cases w <;> simp [sensorOf]
@[simp] theorem sensorOf_runEvents (w : Sensor) (es : List Edge) (s : State) :
    sensorOf w (runEvents es s) = sensorOf w s := by cases w <;> simp [sensorOf]

end Sys2Proof.Machine
end

section
open Sys2Proof Sys2Proof.Machine

/-- Settles O30. -/
theorem scheduleInsertion : Obligations.ScheduleInsertion := by
  refine ⟨fun c e l => ⟨scheduleInsert_eq_none_iff, fun l' h => ?_⟩, fun t k q due s => ⟨fun l h => insertEvent_inserted h,
    fun b h hb hl => ?_⟩⟩
  · obtain ⟨pre, post, placed, split, early, late⟩ := placeEvent_split c e (l.filter fun x => !e.sameKey x)
    refine ⟨pre, post, (scheduleInsert_eq_some h).trans placed, split, fun sorted => ?_⟩
    have fewer := sorted.sublist (List.filter_sublist (p := fun x => !e.sameKey x))
    rw [scheduleInsert_eq_some h, placed]
    exact ⟨early, late fewer, sorted_placed (split.symm ▸ fewer) early (late fewer)⟩
  · obtain ⟨b', found, kept, wave, flux⟩ := findRecord_refusedKind k (findRecord_addException xEventLost k.code hb)
    have room : (b.addException ⟨xEventLost, k.code, s.me⟩).exceptions.length < 6 := by
      have := length_addException_le ⟨xEventLost, k.code, s.me⟩ b; omega
    simp only [insertEvent_refused h]
    exact ⟨trivial, refusedKind_pos .., b', found, kept _ (mem_addException (by omega)), fun hk => wave hk room,
      fun hk ht => flux hk ht room⟩

/-- Settles O28. -/
theorem encoderPulseCounts : Obligations.EncoderPulseCounts := by
  have pulse (s : State) (ha : s.active = true) (b : Bool) : exec (.encoderPulse b) s =
      .next (finish (if b then forwardPulse s else reversePulse s)) := by
    simp only [exec, execEncoderPulse, ha, if_true]
  refine ⟨fun s ha => ⟨⟨_, pulse s ha false, ?_, ?_⟩, fun ht => ⟨_, pulse s ha true, ?_⟩, fun ht => ⟨_, pulse s ha true, ?_⟩⟩,
    fun s ha => ⟨fun ht => ?_, fun ht => ⟨?_, fun hp hm => ⟨_, pulse s ha false, ?_⟩⟩⟩, fun c s t he hp hc hr => ?_⟩
  · rw [finish_counter]
    simp only [Bool.false_eq_true, if_false, reversePulse]
    split <;> rfl
  · rw [finish_tally]
    simp only [Bool.false_eq_true, if_false, reversePulse]
    split <;> rfl
  · rw [finish_counter, finish_tally, if_pos rfl, forwardPulse, if_pos ht]
    exact ⟨rfl, rfl⟩
  · rw [finish_counter, finish_tally, if_pos rfl, forwardPulse, if_neg (by omega), advance]
    simp [ht]
  · rw [pulse s ha, reversePulse, if_neg (by simp)]
    simp only [if_neg ht]
  · rw [pulse s ha, reversePulse, if_neg (by simp)]
    simp only [if_pos ht]
    rfl
  · have back : reversePulse s = appearance 36 { s with pos := { s.pos with tally := 50 } } := by
      unfold reversePulse
      simp only [ht, if_true]
      rfl
    rw [if_neg (by simp), back]
    refine ⟨by rw [finish_tally]; rfl, standing_finish (by decide) (by decide) (fun v hv => ?_) ?_⟩
    · have due : dueFlag (appearance 36 { s with pos := { s.pos with tally := 50 } }) 36 = some false := rfl
      exact (Option.some.inj (due.symm.trans hv)).symm
    · rw [appearance_alarm]
      exact AlarmUnit.standing_appear (hp.symm ▸ (by decide : 36 < 64)) (hm.elim (fun h => .inr (.inr h)) .inl)
  · have moves : movesCounter c = false := by
      cases c with
      | encoderPulse b => exact absurd rfl (hp b)
      | coldReset k => exact absurd rfl (hc k)
      | resetRelease => exact absurd rfl hr
      | _ => rfl
    obtain ⟨u, hu, k, _⟩ := exec_kept c s moves
    obtain rfl := Host.Outcome.next.inj (hu.symm.trans he)
    exact ⟨k.counter, k.tally⟩

/-- Settles O29. -/
theorem sensorChangesAreTaken : Obligations.SensorChangesAreTaken := by
  have changed (w : Sensor) (b : Bool) (s : State) (ha : s.active = true) : exec (.sensorInputChange w b) s =
      .next (finish (sensorChange w b (setSensorPin w b s))) := by
    simp only [exec, execSensorInputChange, ha, if_true]
  refine ⟨fun w b s ha hd => ⟨_, changed w b s ha, ?_⟩, fun w b s ha hd hb hp => ?_, fun s ha ht => ?_,
    fun es s h => runEvents_of_not_running es ?_, fun s h => runEvents_of_not_due h, fun e s hs h1 h2 h3 => ?_,
    fun x xs s hs h1 h2 h3 h4 => ?_, fun c a b d => ?_⟩
  · have waits : sensorChange w b (setSensorPin w b s) =
        setSensor w ((sensorOf w s).seen s.pos.counter b) (setSensorPin w b s) := by
      unfold sensorChange
      simp only [setSensorPin_cfg, sensorOf_setSensorPin, setSensorPin_pos]
      rw [if_neg (by omega)]
    rw [waits]
    simp only [finish_counter, setSensor_counter, setSensorPin_pos, sensorOf_finish, sensorOf_setSensor, true_and]
    unfold SensorState.seen
    refine ⟨?_, fun hb => by rw [if_pos hb], fun hb => ?_⟩
    · split
      · rfl
      · split <;> rfl
    · rw [if_neg hb]
      split
      · rename_i p h; rw [h]; rfl
      · rename_i h; rw [h]; rfl
  · have level : (!(sensorOf w s).active) = b := by cases h : (sensorOf w s).active <;> cases b <;> simp_all
    have taken : sensorChange w b (setSensorPin w b s) =
        runEvents [⟨w, b, s.pos.counter⟩] (setSensor w ⟨b, none⟩ (setSensorPin w b s)) := by
      unfold sensorChange
      simp only [setSensorPin_cfg, sensorOf_setSensorPin, setSensorPin_pos, SensorState.seen, if_neg hb, hp,
        SensorState.edge, SensorState.take, reachedBy_self, if_true, level, hd]
    rw [changed w b s ha, taken]
    exact ⟨rfl, _, rfl, by simp⟩
  · have pulse : exec (.encoderPulse true) s = .next (finish (advance s)) := by
      simp only [exec, execEncoderPulse, ha, if_true, forwardPulse, ht, Nat.lt_irrefl, if_false]
    refine ⟨_, pulse, ?_, ?_, ?_⟩
    · rw [finish_entryS, advance, runEvents_entryS, dropSpacing_pos]
      rcases Option.eq_none_or_eq_some s.pos.entryS.pending with h | ⟨p, h⟩ <;> simp only [SensorState.take, h] <;> rfl
    · rw [finish_exitS, advance, runEvents_exitS, dropSpacing_pos]
      rcases Option.eq_none_or_eq_some s.pos.exitS.pending with h | ⟨p, h⟩ <;> simp only [SensorState.take, h] <;> rfl
    · simp only [advance, SensorState.edge, SensorState.take]
      rcases Option.eq_none_or_eq_some s.pos.entryS.pending with he | ⟨p, he⟩ <;>
        rcases Option.eq_none_or_eq_some s.pos.exitS.pending with hx | ⟨q, hx⟩ <;> simp only [he, hx] <;> rfl
  · rw [Bool.eq_false_iff, Ne, running_eq_true_iff]; exact h
  · have one : waiting [e] s = 1 := by simp [waiting, h1]
    have one' : waiting [e] (finish s) = 1 := by simp [waiting, h2]
    rw [runEvents_of_running _ ((running_eq_true_iff s).mpr hs), runSchedule_one one one', handOver_edge one']
    exact runSchedule_idle (waiting_nil h3)
  · have one : waiting [] s = 1 := by simp [waiting, h1]
    have one' : waiting [] (finish s) = 1 := by simp [waiting, h2, headDue, h3]
    rw [runEvents_of_running _ ((running_eq_true_iff s).mpr hs), runSchedule_one one one', handOver_head one', fireHead_cons h2]
    exact runSchedule_idle (waiting_nil h4)
  · have hb (p : Pos) : behind c p = (c.toNat + 2 ^ 24 - p.toNat) % 2 ^ 24 := toNat_pos_sub c p
    have hh (p : Pos) : ahead c p = (p.toNat + 2 ^ 24 - c.toNat) % 2 ^ 24 := toNat_pos_sub p c
    simp only [← hb, ← hh]
    refine ⟨reached_iff, ?_, ?_, ?_⟩
    · rw [reachedBy, Bool.and_eq_true, reached_iff, decide_eq_true_iff]
    · unfold before
      simp only [reached_iff]
      by_cases ra : behind c a < 2 ^ 23 <;> by_cases rb : behind c b < 2 ^ 23 <;>
        simp only [ra, rb, if_true, if_false, decide_eq_true_eq, Bool.false_eq_true, true_iff, false_iff, true_and, false_and, false_or] <;> omega
    · simp [offset, BitVec.toNat_add]

end

section
/-! The entry sensor (R59 to R64): what a run of insertions does, and the edges. -/
namespace Sys2Proof.Machine

/-! ### The page of a board -/

/-- A reference gives its page by the store and the image alone. -/
theorem refPage_congr {s t : State} (hr : t.recipe = s.recipe) (hc : t.cfg = s.cfg) (l : List Ref) (k : PageKind) (r : Ref) :
    refPage t l k r = refPage s l k r := by
  simp only [refPage, planPage, inheritedPage, hr, hc]

theorem findRecord_map {g : BoardRecord → BoardRecord} (hg : ∀ r, (g r).tag = r.tag) (t : Tag) (q : List BoardRecord) :
    findRecord t (q.map g) = (findRecord t q).map g := by
  simp only [findRecord, List.find?_map, Function.comp_def, hg]

theorem earlierRefs_map {g : BoardRecord → BoardRecord} (hg : ∀ r, (g r).tag = r.tag) (hr : ∀ r, (g r).ref = r.ref) (t : Tag)
    (q : List BoardRecord) (l : List Ref) : earlierRefs t (q.map g) l = earlierRefs t q l := by
  induction q generalizing l with
  | nil => rfl
  | cons r q ih => simp only [List.map_cons, earlierRefs, hg, hr, ih]

theorem boardPage_map {s t : State} {g : BoardRecord → BoardRecord} (hg : ∀ r, (g r).tag = r.tag) (hr : ∀ r, (g r).ref = r.ref)
    (hq : t.board.queue = s.board.queue.map g) (he : t.recipe = s.recipe) (hc : t.cfg = s.cfg) (b : Tag) (k : PageKind) :
    boardPage b k t = boardPage b k s := by
  unfold boardPage
  rw [hq, findRecord_map hg, earlierRefs_map hg hr]
  cases findRecord b s.board.queue with
  | none => rfl
  | some r => simp only [Option.map_some, hr, refPage_congr he hc]

/-! ### What insertions leave (R39, R40) -/

/-- Of a record only the exceptions grow, by EVENT LOST, FLUX SKIPPED or WAVE LOW. -/
structure LostOnly (r r' : BoardRecord) : Prop where
  rest : ∃ es o, r' = { r with exceptions := es, overflow := o }
  kept : ∀ x ∈ r.exceptions, x ∈ r'.exceptions
  joined : ∀ x ∈ r'.exceptions, x ∈ r.exceptions ∨ x.code = 3 ∨ x.code = 6 ∨ x.code = 9

namespace LostOnly
variable {r r' r'' : BoardRecord}

theorem refl (r : BoardRecord) : LostOnly r r := ⟨⟨_, _, rfl⟩, fun _ h => h, fun _ h => .inl h⟩

theorem trans (h : LostOnly r r') (h' : LostOnly r' r'') : LostOnly r r'' := by
  obtain ⟨⟨es, o, rest⟩, kept, joined⟩ := h
  obtain ⟨⟨es', o', rest'⟩, kept', joined'⟩ := h'
  refine ⟨⟨es', o', by rw [rest', rest]⟩, fun x hx => kept' x (kept x hx), fun x hx => ?_⟩
  rcases joined' x hx with hx | hx
  · exact joined x hx
  · exact .inr hx

theorem tag (h : LostOnly r r') : r'.tag = r.tag := by obtain ⟨_, _, e⟩ := h.rest; rw [e]
theorem ref (h : LostOnly r r') : r'.ref = r.ref := by obtain ⟨_, _, e⟩ := h.rest; rw [e]

theorem addException {c : Nat} (hc : c = 3 ∨ c = 6 ∨ c = 9) (q me : Nat) (r : BoardRecord) :
    LostOnly r (r.addException ⟨c, q, me⟩) := by
  refine ⟨?_, fun x hx => mem_addException_of_mem hx, ?_⟩
  · unfold BoardRecord.addException
    split
    · exact ⟨_, _, rfl⟩
    · split <;> exact ⟨_, _, rfl⟩
  · intro x hx
    unfold BoardRecord.addException at hx
    split at hx
    · exact .inl hx
    · split at hx
      · rcases List.mem_append.mp hx with hx | hx
        · exact .inl hx
        · rw [List.mem_singleton.mp hx]; exact .inr hc
      · exact .inl hx

end LostOnly

/-- What insertions change: the schedule, the exceptions that a refusal adds, and the series list. -/
def Inserts (s t : State) : Prop := ∃ l g h, (∀ r, LostOnly r (g r)) ∧
  t = { s with pos := { s.pos with schedule := l }, board := { s.board with queue := s.board.queue.map g }
               flux := { s.flux with handled := h } }

namespace Inserts
variable {s t u : State}

theorem refl (s : State) : Inserts s s := ⟨s.pos.schedule, id, s.flux.handled, LostOnly.refl, by rw [List.map_id]⟩

theorem trans (h : Inserts s t) (h' : Inserts t u) : Inserts s u := by
  obtain ⟨l, g, m, hg, rfl⟩ := h
  obtain ⟨l', g', m', hg', rfl⟩ := h'
  exact ⟨l', g' ∘ g, m', fun r => (hg r).trans (hg' _), by simp only [List.map_map]⟩

theorem addException {c : Nat} (hc : c = 3 ∨ c = 6 ∨ c = 9) (b : Tag) (q : Nat) (s : State) :
    Inserts s (addException b c q s) := by
  refine ⟨s.pos.schedule, fun r => if r.tag == b then r.addException ⟨c, q, s.me⟩ else r, s.flux.handled, fun r => ?_, rfl⟩
  dsimp only
  split
  · exact LostOnly.addException hc ..
  · exact .refl r

theorem markHandled (b : Tag) (s : State) : Inserts s (markHandled b s) := by
  unfold Machine.markHandled
  split
  · exact refl s
  · exact ⟨s.pos.schedule, id, _, LostOnly.refl, by rw [List.map_id]⟩

theorem refusedKind (b : Tag) (k : EventKind) (s : State) : Inserts s (refusedKind b k s) := by
  cases k with
  | fluxStart =>
    unfold Machine.refusedKind
    simp only []
    split
    · exact refl s
    · exact (addException (.inr (.inl rfl)) ..).trans (markHandled ..)
  | waveRaise => exact addException (.inr (.inr rfl)) ..
  | _ => exact refl s

theorem insertEvent (b : Tag) (k : EventKind) (q : Nat) (due : Pos) (s : State) :
    Inserts s (insertEvent b k q due s).2 := by
  cases h : scheduleInsert s.pos.counter ⟨b, k, q, due⟩ s.pos.schedule with
  | some l =>
    rw [insertEvent_inserted h]
    exact ⟨l, id, s.flux.handled, LostOnly.refl, by rw [List.map_id]⟩
  | none =>
    rw [insertEvent_refused h]
    exact (addException (.inl rfl) ..).trans (refusedKind ..)

theorem insertAll (b : Tag) (es : List (EventKind × Nat × Pos)) (s : State) : Inserts s (insertAll b es s) := by
  induction es generalizing s with
  | nil => exact refl s
  | cons e es ih => exact (insertEvent b e.1 e.2.1 e.2.2 s).trans (ih _)

theorem gate (h : Inserts s t) : t.board.gate = s.board.gate := by obtain ⟨_, _, _, _, rfl⟩ := h; rfl
theorem spacing (h : Inserts s t) : t.board.spacing = s.board.spacing := by obtain ⟨_, _, _, _, rfl⟩ := h; rfl
theorem lastLocal (h : Inserts s t) : t.board.lastLocal = s.board.lastLocal := by obtain ⟨_, _, _, _, rfl⟩ := h; rfl
theorem alarm (h : Inserts s t) : t.alarm = s.alarm := by obtain ⟨_, _, _, _, rfl⟩ := h; rfl
theorem cfg (h : Inserts s t) : t.cfg = s.cfg := by obtain ⟨_, _, _, _, rfl⟩ := h; rfl
theorem counter (h : Inserts s t) : t.pos.counter = s.pos.counter := by obtain ⟨_, _, _, _, rfl⟩ := h; rfl
theorem length (h : Inserts s t) : t.board.queue.length = s.board.queue.length := by
  obtain ⟨_, _, _, _, rfl⟩ := h; simp

theorem findRecord (h : Inserts s t) {b : Tag} {r : BoardRecord} (hr : findRecord b s.board.queue = some r) :
    ∃ r', Machine.findRecord b t.board.queue = some r' ∧ LostOnly r r' := by
  obtain ⟨_, g, _, hg, rfl⟩ := h
  exact ⟨g r, by rw [findRecord_map fun r => (hg r).tag, hr]; rfl, hg r⟩

theorem mem (h : Inserts s t) {r : BoardRecord} (hr : r ∈ s.board.queue) : ∃ r' ∈ t.board.queue, LostOnly r r' := by
  obtain ⟨_, g, _, hg, rfl⟩ := h
  exact ⟨g r, List.mem_map.mpr ⟨r, hr, rfl⟩, hg r⟩

theorem marginPage (h : Inserts s t) (b : Tag) : marginPage b t = marginPage b s := by
  have cfg := h.cfg
  obtain ⟨_, g, _, hg, e⟩ := h
  have page := boardPage_map (s := s) (t := t) (fun r => (hg r).tag) (fun r => (hg r).ref) (by rw [e]) (by rw [e]) cfg b .flux
  simp only [Machine.marginPage, boardFlux, page, cfg]

theorem enterEvents (h : Inserts s t) (b : Tag) (p : Pos) : enterEvents b p t = enterEvents b p s := by
  simp only [Machine.enterEvents, h.cfg, h.marginPage]

theorem leaveEvents (h : Inserts s t) (b : Tag) (p : Pos) : leaveEvents b p t = leaveEvents b p s := by
  simp only [Machine.leaveEvents, h.cfg, h.marginPage]

end Inserts

/-! ### Insertions with room (R39) -/

theorem length_scheduleInsert_le {c : Pos} {e : Event} {l l' : List Event} (h : scheduleInsert c e l = some l') :
    l'.length ≤ l.length + 1 := by
  rw [scheduleInsert_eq_some h]
  obtain ⟨pre, post, placed, split, -, -⟩ := placeEvent_split c e (l.filter fun x => !e.sameKey x)
  have lengths := congrArg List.length split
  have := List.length_filter_le (fun x => !e.sameKey x) l
  simp only [List.length_append] at lengths
  rw [placed, List.length_append, List.length_cons]
  omega

/-- With room each insertion of a list with different keys leaves its entry, and every entry of another key. -/
theorem insertAll_schedule {b : Tag} {es : List (EventKind × Nat × Pos)} {s : State}
    (keys : es.Pairwise fun x y => (x.1, x.2.1) ≠ (y.1, y.2.1)) (room : s.pos.schedule.length + es.length ≤ 48) :
    (∀ e ∈ es, (⟨b, e.1, e.2.1, e.2.2⟩ : Event) ∈ (insertAll b es s).pos.schedule) ∧
    ∀ x ∈ s.pos.schedule, (∀ e ∈ es, (x.kind, x.qualifier) ≠ (e.1, e.2.1)) → x ∈ (insertAll b es s).pos.schedule := by
  induction es generalizing s with
  | nil => exact ⟨nofun, fun x hx _ => hx⟩
  | cons e es ih =>
    obtain ⟨ne, keys⟩ := List.pairwise_cons.mp keys
    rw [List.length_cons] at room
    cases hi : scheduleInsert s.pos.counter ⟨b, e.1, e.2.1, e.2.2⟩ s.pos.schedule with
    | none =>
      have := (scheduleInsert_eq_none_iff.mp hi).1
      omega
    | some l =>
      have eq : insertAll b (e :: es) s = insertAll b es { s with pos := { s.pos with schedule := l } } := by
        change insertAll b es (insertEvent b e.1 e.2.1 e.2.2 s).2 = _
        rw [insertEvent_inserted hi]
      have shorter := length_scheduleInsert_le hi
      obtain ⟨here, rest⟩ := ih (s := { s with pos := { s.pos with schedule := l } }) keys (by simp only []; omega)
      rw [eq]
      refine ⟨fun x hx => ?_, fun x hx hn => ?_⟩
      · rcases List.mem_cons.mp hx with rfl | hx
        · exact rest _ ((mem_scheduleInsert hi).mpr (.inl rfl)) ne
        · exact here x hx
      · refine rest x ((mem_scheduleInsert hi).mpr (.inr (.inl ⟨hx, ?_⟩))) fun y hy => hn y (List.mem_cons_of_mem _ hy)
        have other := hn e (List.mem_cons_self ..)
        refine Classical.byContradiction fun same => ?_
        simp only [Event.sameKey, Bool.not_eq_false, Bool.and_eq_true, beq_iff_eq] at same
        exact other (by rw [same.1.2, same.2])

/-! ### The entries of R62 and R64 -/

theorem mem_setZones {img : Image} {z : Nat × Zone} :
    z ∈ img.setZones ↔ z.1 < 4 ∧ z.2 = img.zone z.1 ∧ (img.zone z.1).machine ≠ 0 := by
  obtain ⟨i, z⟩ := z
  simp only [Image.setZones, List.mem_filter, List.mem_map, List.mem_range, Prod.mk.injEq, bne_iff_ne]
  constructor
  · rintro ⟨⟨_, h, rfl, rfl⟩, hm⟩; exact ⟨h, rfl, hm⟩
  · rintro ⟨h, rfl, hm⟩; exact ⟨⟨i, h, rfl, rfl⟩, hm⟩

theorem length_setZones_le (img : Image) : img.setZones.length ≤ 4 :=
  Nat.le_trans (List.length_filter_le ..) (by simp)

theorem setZones_pairwise (img : Image) : img.setZones.Pairwise fun x y => x.1 ≠ y.1 := by
  refine List.Pairwise.filter _ (List.pairwise_map.mpr ?_)
  exact (List.nodup_range (n := 4)).imp id

theorem enterEvents_keys (b : Tag) (p : Pos) (s : State) :
    (enterEvents b p s).Pairwise fun x y => (x.1, x.2.1) ≠ (y.1, y.2.1) := by
  have zones := setZones_pairwise s.cfg
  unfold enterEvents
  simp only []
  split <;> split <;> simp [List.pairwise_append, List.pairwise_map, zones, List.mem_append, or_imp, forall_and] <;> grind

theorem leaveEvents_keys (b : Tag) (p : Pos) (s : State) :
    (leaveEvents b p s).Pairwise fun x y => (x.1, x.2.1) ≠ (y.1, y.2.1) := by
  have zones := setZones_pairwise s.cfg
  unfold leaveEvents
  simp only []
  split <;> split <;> simp [List.pairwise_append, List.pairwise_map, zones, or_imp, forall_and] <;> grind

theorem length_enterEvents_le (b : Tag) (p : Pos) (s : State) : (enterEvents b p s).length ≤ 7 := by
  have := length_setZones_le s.cfg
  unfold enterEvents
  simp only []
  split <;> split <;> simp <;> omega

theorem length_leaveEvents_le (b : Tag) (p : Pos) (s : State) : (leaveEvents b p s).length ≤ 6 := by
  have := length_setZones_le s.cfg
  unfold leaveEvents
  simp only []
  split <;> split <;> simp <;> omega

theorem enterEvents_inserted {b : Tag} {p : Pos} {s : State} (room : s.pos.schedule.length ≤ 41) :
    ∀ e ∈ enterEvents b p s, (⟨b, e.1, e.2.1, e.2.2⟩ : Event) ∈ (insertAll b (enterEvents b p s) s).pos.schedule :=
  (insertAll_schedule (enterEvents_keys b p s) (by have := length_enterEvents_le b p s; omega)).1

theorem leaveEvents_inserted {b : Tag} {p : Pos} {s : State} (room : s.pos.schedule.length ≤ 42) :
    ∀ e ∈ leaveEvents b p s, (⟨b, e.1, e.2.1, e.2.2⟩ : Event) ∈ (insertAll b (leaveEvents b p s) s).pos.schedule :=
  (insertAll_schedule (leaveEvents_keys b p s) (by have := length_leaveEvents_le b p s; omega)).1

/-! ### Which entries they are -/

section
variable (b : Tag) (p : Pos) {s : State}

theorem exitDeadline_mem_enterEvents : (.exitDeadline, 0, offset p (s.cfg.geometry.exitDistance + s.cfg.geometry.exitTol)) ∈
    enterEvents b p s := by simp [enterEvents]

theorem zoneEnter_mem_enterEvents {z : Nat} (hz : z < 4) (hm : (s.cfg.zone z).machine ≠ 0) :
    (.zoneEnter, z, offset p (s.cfg.zone z).start) ∈ enterEvents b p s := by
  simp only [enterEvents, List.mem_append, List.mem_map]
  exact .inl (.inl (.inr ⟨(z, s.cfg.zone z), mem_setZones.mpr ⟨hz, rfl, hm⟩, rfl⟩))

theorem fluxStart_mem_enterEvents (h : s.cfg.functions.flux = true) :
    (.fluxStart, 0, offset p (s.cfg.geometry.fluxPos + (marginPage b s).lead)) ∈ enterEvents b p s := by simp [enterEvents, h]

theorem waveRaise_mem_enterEvents (h : s.cfg.functions.pot = true) :
    (.waveRaise, 0, offsetBack (offset p s.cfg.geometry.wavePos) s.cfg.geometry.raiseLead) ∈ enterEvents b p s := by
  simp [enterEvents, h]

theorem zoneLeave_mem_leaveEvents {z : Nat} (hz : z < 4) (hm : (s.cfg.zone z).machine ≠ 0) :
    (.zoneLeave, z, offset p (s.cfg.zone z).stop) ∈ leaveEvents b p s := by
  simp only [leaveEvents, List.mem_append, List.mem_map]
  exact .inl (.inl ⟨(z, s.cfg.zone z), mem_setZones.mpr ⟨hz, rfl, hm⟩, rfl⟩)

theorem fluxEnd_mem_leaveEvents (h : s.cfg.functions.flux = true) :
    (.fluxEnd, 0, offsetBack (offset p s.cfg.geometry.fluxPos) (marginPage b s).tail) ∈ leaveEvents b p s := by
  simp [leaveEvents, h]

theorem waveLower_mem_leaveEvents (h : s.cfg.functions.pot = true) :
    (.waveLower, 0, offset p (s.cfg.geometry.wavePos + s.cfg.geometry.lowerLag)) ∈ leaveEvents b p s := by simp [leaveEvents, h]

end

/-! ### Records placed and local tags (R61) -/

theorem findRecord_placeRecord {r : BoardRecord} {q : List BoardRecord} (h : ∀ x ∈ q, x.tag ≠ r.tag) :
    findRecord r.tag (placeRecord r q) = some r := by
  obtain ⟨x, hx⟩ := Option.isSome_iff_exists.mp
    (findRecord_isSome.mpr ⟨r, mem_placeRecord.mpr (.inl rfl), rfl⟩ : (findRecord r.tag (placeRecord r q)).isSome = true)
  rcases mem_placeRecord.mp (List.mem_of_find?_eq_some hx) with rfl | hq
  · exact hx
  · exact absurd (tag_of_findRecord hx) (h x hq)

theorem length_placeRecord (r : BoardRecord) (q : List BoardRecord) : (placeRecord r q).length = q.length + 1 := by
  induction q with
  | nil => rfl
  | cons x xs ih =>
    unfold placeRecord
    split
    · rfl
    · rw [List.length_cons, ih]; rfl

/-- The local tag i places after the one after the last (R61). -/
def localAfter (last i : Nat) : Nat := 65280 + (last + 1 + i - 65280) % 256

theorem localAfter_range (last i : Nat) : 65280 ≤ localAfter last i ∧ localAfter last i ≤ 65535 := by
  unfold localAfter; omega

theorem nextLocal_eq (last : Nat) (q : List BoardRecord) : nextLocal last q =
    (((List.range 256).map (localAfter last)).find? fun t => (findRecord t q).isNone).getD (localAfter last 0) := rfl

theorem nextLocal_range (last : Nat) (q : List BoardRecord) : 65280 ≤ nextLocal last q ∧ nextLocal last q ≤ 65535 := by
  rw [nextLocal_eq]
  generalize List.range 256 = l
  cases hf : (l.map (localAfter last)).find? fun t => (findRecord t q).isNone with
  | none => rw [Option.getD_none]; exact localAfter_range last 0
  | some t =>
    obtain ⟨i, -, e⟩ := List.mem_map.mp (List.mem_of_find?_eq_some hf)
    rw [Option.getD_some, ← e]; exact localAfter_range last i

/-! ### The edges -/

/-- The state with the INBOUND record made ENTERING, before its entries are inserted (R60). -/
def nowEntering (r : BoardRecord) (p : Pos) (s : State) : State :=
  { s with board := { s.board with gate := none
                                   queue := placeRecord { r with state := .entering, lead := some p }
                                     (s.board.queue.filter fun x => x.tag != r.tag) } }

theorem entryLeading_inbound {p : Pos} {s : State} {r : BoardRecord}
    (h : s.board.queue.find? (fun x => x.state == .inbound) = some r) :
    entryLeading p s = insertAll r.tag (enterEvents r.tag p (nowEntering r p s)) (nowEntering r p s) := by
  unfold entryLeading
  simp only [h]
  rfl

theorem entryLeading_stray {p : Pos} {s : State} (h : ∀ x ∈ s.board.queue, x.state ≠ .inbound) :
    entryLeading p s = makeStray p { s with board := { s.board with gate := none } } := by
  have : s.board.queue.find? (fun x => x.state == .inbound) = none := by simpa using h
  unfold entryLeading
  simp only [this]

/-- The record made for a stray (R61). -/
def strayRecord (p : Pos) (s : State) : BoardRecord :=
  ⟨nextLocal s.board.lastLocal s.board.queue, none, true, 0, some p, none, .entering, .default, none, [], false⟩

/-- The state with the stray in the queue, before its entries are inserted (R61). -/
def strayHeld (p : Pos) (s : State) : State :=
  addException (strayRecord p s).tag xRecipeDefaulted 0 { appearance aStrayBoard s with
    board := { s.board with queue := placeRecord (strayRecord p s) s.board.queue, lastLocal := (strayRecord p s).tag } }

theorem makeStray_eq {p : Pos} {s : State} (h : s.board.queue.length < 8) : makeStray p s =
    insertAll (strayRecord p s).tag (enterEvents (strayRecord p s).tag p (strayHeld p s)) (strayHeld p s) := by
  unfold makeStray
  rw [if_neg (by change ¬ 8 ≤ s.board.queue.length; omega)]
  rfl

/-- A stray joins the queue as RECIPE DEFAULTED, its entries inserted, with STRAY BOARD (R61). -/
theorem makeStray_holds {p : Pos} {s : State} (hl : s.board.queue.length < 8) :
    (makeStray p s).board.gate = s.board.gate ∧ (makeStray p s).board.queue.length = s.board.queue.length + 1 ∧
    (s.alarm.place.length = 64 → (makeStray p s).alarm.standing 32 = true) ∧
    ∃ r ∈ (makeStray p s).board.queue, LostOnly ((strayRecord p s).addException ⟨xRecipeDefaulted, 0, s.me⟩) r ∧
      (makeStray p s).board.lastLocal = (strayRecord p s).tag ∧
      (s.pos.schedule.length ≤ 41 → ∀ e ∈ enterEvents (strayRecord p s).tag p (makeStray p s),
        (⟨(strayRecord p s).tag, e.1, e.2.1, e.2.2⟩ : Event) ∈ (makeStray p s).pos.schedule) := by
  rw [makeStray_eq hl]
  have ins := Inserts.insertAll (strayRecord p s).tag (enterEvents (strayRecord p s).tag p (strayHeld p s)) (strayHeld p s)
  have added := mem_updateRecord (f := fun r => r.addException ⟨xRecipeDefaulted, 0, s.me⟩)
    (mem_placeRecord.mpr (.inl rfl) : strayRecord p s ∈ placeRecord (strayRecord p s) s.board.queue) rfl
  obtain ⟨r, hr, lost⟩ := ins.mem added
  refine ⟨ins.gate, ?_, fun hp => ?_, r, hr, lost, ins.lastLocal, fun room => ?_⟩
  · rw [ins.length]
    exact (length_updateRecord ..).trans (length_placeRecord ..)
  · rw [ins.alarm]
    exact AlarmUnit.standing_appear (hp.symm ▸ (by decide : 32 < 64)) (.inr (.inl (by decide)))
  · rw [ins.enterEvents]
    exact enterEvents_inserted (s := strayHeld p s) room

/-- The state with the trail in the record, before its entries are inserted (R63). -/
def nowTrailed (r : BoardRecord) (p : Pos) (s : State) : State :=
  mapRecord r.tag (BoardRecord.trailed s.cfg.geometry.lengthTol s.me (r.lead.getD 0) p) (setSpacing p s)

theorem setSpacing_eq (p : Pos) (s : State) : setSpacing p s = { s with board := { s.board with
    spacing := if s.cfg.functions.entry then
      (if reachedBy s.pos.counter p s.cfg.geometry.minSpacing then none else some p) else s.board.spacing } } := by
  unfold setSpacing
  split
  · rfl
  · rfl

theorem trail_of_none_open {q : List BoardRecord} (h : q.find? (fun x => x.lead.isSome && x.trail.isNone) = none) :
    ∀ x ∈ q, x.lead = none ∨ x.trail ≠ none := by
  simpa [Option.ne_none_iff_isSome, Decidable.imp_iff_not_or] using h

theorem entryTrailing_none {p : Pos} {s : State} (h : ∀ x ∈ s.board.queue, x.lead = none ∨ x.trail ≠ none) :
    entryTrailing p s = setSpacing p s := by
  have : s.board.queue.find? (fun x => x.lead.isSome && x.trail.isNone) = none := by
    simpa [Option.ne_none_iff_isSome, Decidable.imp_iff_not_or] using h
  unfold entryTrailing
  simp only [setSpacing_eq, this]

theorem entryTrailing_some {p : Pos} {s : State} {r : BoardRecord}
    (h : s.board.queue.find? (fun x => x.lead.isSome && x.trail.isNone) = some r) :
    entryTrailing p s = insertAll r.tag (leaveEvents r.tag p (nowTrailed r p s)) (nowTrailed r p s) := by
  unfold entryTrailing nowTrailed
  simp only [setSpacing_eq, h]

theorem trailed_tag (tol me : Nat) (l p : Pos) (r : BoardRecord) : (r.trailed tol me l p).tag = r.tag := by
  unfold BoardRecord.trailed
  simp only []
  split
  · rw [addException_tag]
  · rfl

theorem trailed_rest (tol me : Nat) (l p : Pos) (r : BoardRecord) :
    (r.trailed tol me l p).trail = some p ∧ (r.trailed tol me l p).lead = r.lead ∧
      (r.trailed tol me l p).state = if r.state = .entering then .inside else r.state := by
  unfold BoardRecord.trailed BoardRecord.addException
  simp only []
  split
  · split
    · exact ⟨rfl, rfl, rfl⟩
    · split <;> exact ⟨rfl, rfl, rfl⟩
  · exact ⟨rfl, rfl, rfl⟩

end Sys2Proof.Machine
end

section
open Sys2Proof Sys2Proof.Machine

/-- Settles O31. -/
theorem entryEdgesMoveBoards : Obligations.EntryEdgesMoveBoards := by
  refine ⟨fun p s r hr => ?_, fun p s hn hl => ?_, fun p s hn hl => ?_, fun p s => ⟨?_, fun hn => ?_, fun r l hr hf hlead => ?_⟩⟩
  · have ins := Inserts.insertAll r.tag (enterEvents r.tag p (nowEntering r p s)) (nowEntering r p s)
    rw [entryLeading_inbound hr]
    have held : findRecord r.tag (nowEntering r p s).board.queue = some { r with state := .entering, lead := some p } :=
      findRecord_placeRecord (r := { r with state := .entering, lead := some p }) (by simp)
    obtain ⟨x, hx, ⟨⟨es, o, made⟩, -, -⟩⟩ := ins.findRecord held
    refine ⟨ins.gate, ⟨x, hx, by rw [made], by rw [made], by rw [made], by rw [made], by rw [made], by rw [made],
      by rw [made]⟩, fun room => ?_⟩
    have inserted := enterEvents_inserted (b := r.tag) (p := p) (s := nowEntering r p s) room
    rw [ins.marginPage]
    exact ⟨inserted _ (exitDeadline_mem_enterEvents ..), fun z hz hm => inserted _ (zoneEnter_mem_enterEvents _ _ hz hm),
      fun hf => inserted _ (fluxStart_mem_enterEvents _ _ hf), fun hp => inserted _ (waveRaise_mem_enterEvents _ _ hp)⟩
  · exact (entryLeading_stray hn).trans (if_pos hl)
  · rw [entryLeading_stray hn]
    obtain ⟨gate, length, stands, r, hr, ⟨⟨es, o, made⟩, kept, -⟩, last, events⟩ :=
      makeStray_holds (p := p) (s := { s with board := { s.board with gate := none } }) hl
    have tag : r.tag = nextLocal s.board.lastLocal s.board.queue := by rw [made]; rfl
    obtain ⟨low, high⟩ := nextLocal_range s.board.lastLocal s.board.queue
    refine ⟨gate, length, stands, r, hr, tag, tag ▸ low, tag ▸ high, last.trans tag.symm, ?_⟩
    refine ⟨by rw [made]; rfl, by rw [made]; rfl, by rw [made]; rfl, by rw [made]; rfl, by rw [made]; rfl, by rw [made]; rfl,
      by rw [made]; rfl, by rw [made]; rfl, kept _ (mem_addException (Nat.succ_pos 5)), fun room => ?_⟩
    rw [tag]; exact events room
  · by_cases hn : ∀ x ∈ s.board.queue, x.lead = none ∨ x.trail ≠ none
    · rw [entryTrailing_none hn, setSpacing_eq]
    · obtain ⟨r, hr⟩ := Option.ne_none_iff_exists'.mp fun e => hn (trail_of_none_open e)
      rw [entryTrailing_some hr, (Inserts.insertAll ..).spacing]
      simp only [nowTrailed, setSpacing_eq]
      rfl
  · rw [entryTrailing_none hn, setSpacing_eq]
    exact ⟨rfl, rfl⟩
  · rw [entryTrailing_some hr]
    have ins := Inserts.insertAll r.tag (leaveEvents r.tag p (nowTrailed r p s)) (nowTrailed r p s)
    have trailed : findRecord r.tag (nowTrailed r p s).board.queue =
        some (r.trailed s.cfg.geometry.lengthTol s.me l p) := by
      rw [nowTrailed, findRecord_mapRecord (trailed_tag _ _ _ _) (by rw [setSpacing_eq]; exact hf), hlead]; rfl
    obtain ⟨x, hx, ⟨⟨es, o, made⟩, kept, joined⟩⟩ := ins.findRecord trailed
    refine ⟨⟨x, hx, ?_, ?_, ?_, ?_, fun h0 hfar hroom => kept _ ?_, fun hnear hm => ?_⟩, fun room => ?_⟩
    · rw [made]; exact (trailed_rest ..).1
    · rw [made]; exact (trailed_rest ..).2.1
    · rw [made]; rfl
    · rw [made]; exact (trailed_rest ..).2.2
    · unfold BoardRecord.trailed
      simp only []
      rw [if_pos ⟨h0, hfar⟩]
      exact mem_addException hroom
    · have old : (⟨2, 0, s.me⟩ : BoardException) ∈ (r.trailed s.cfg.geometry.lengthTol s.me l p).exceptions :=
        (joined _ hm).resolve_right (by simp)
      unfold BoardRecord.trailed at old
      simp only [] at old
      rwa [if_neg (by rintro ⟨h0, hfar⟩; rcases hnear with h | h <;> omega)] at old
    · have inserted := leaveEvents_inserted (b := r.tag) (p := p) (s := nowTrailed r p s)
        (by simp only [nowTrailed, setSpacing_eq]; exact room)
      have cfg : (nowTrailed r p s).cfg = s.cfg := by simp only [nowTrailed, setSpacing_eq]; rfl
      rw [ins.marginPage, ← cfg]
      exact ⟨fun z hz hm => inserted _ (zoneLeave_mem_leaveEvents _ _ hz hm),
        fun hf => inserted _ (fluxEnd_mem_leaveEvents _ _ hf), fun hp => inserted _ (waveLower_mem_leaveEvents _ _ hp)⟩

end

section
/-! The exit sensor and the deadlines (R65, R68, R71, R72). -/
namespace Sys2Proof.Machine

theorem exitLeading_none {s : State} (h : ∀ x ∈ s.board.queue, x.state ≠ .entering ∧ x.state ≠ .inside) :
    exitLeading s = s := by
  have : s.board.queue.find? (fun x => x.state == .entering || x.state == .inside) = none := by simpa using h
  unfold exitLeading
  rw [this]

theorem exitLeading_some {s : State} {r : BoardRecord}
    (h : s.board.queue.find? (fun x => x.state == .entering || x.state == .inside) = some r) :
    exitLeading s = if s.board.handoff.bound.isSome then s
      else if s.cfg.downstream.isNone then mapRecord r.tag (fun x => { x with state := .finishing }) s
      else offerBoard r.tag { s with board := { s.board with handoff := ⟨some r.tag, true, false, none⟩ } } := by
  unfold exitLeading
  rw [h]

theorem offerBoard_of_find {t : Tag} {s : State} {r : BoardRecord} {d : Nat} (h : findRecord t s.board.queue = some r)
    (hd : s.cfg.downstream = some d) : offerBoard t s =
      enqueue .tracker (toStation d) (.boardOffer r (s.recipe.status r.ref))
        { s with board := { s.board with handoff := { s.board.handoff with outstanding := true } } } := by
  unfold offerBoard
  rw [h, hd]

theorem exitTrailing_finishing {s : State} {r : BoardRecord}
    (h : s.board.queue.find? (fun x => x.state == .finishing) = some r) : exitTrailing s = removeWithExit r.tag .done s := by
  unfold exitTrailing
  rw [h]

theorem exitTrailing_unbound {s : State} (h : ∀ x ∈ s.board.queue, x.state ≠ .finishing)
    (hb : s.board.handoff.bound = none) : exitTrailing s = s := by
  have : s.board.queue.find? (fun x => x.state == .finishing) = none := by simpa using h
  unfold exitTrailing
  rw [this, hb]

theorem exitTrailing_bound {s : State} {b : Tag} {r : BoardRecord} (h : ∀ x ∈ s.board.queue, x.state ≠ .finishing)
    (hb : s.board.handoff.bound = some b) (hr : findRecord b s.board.queue = some r) : exitTrailing s =
      if r.state = .offered then removeRecord b s
      else if r.state = .blocked then removeWithExit b .leftUnaccepted s
      else if s.board.handoff.outstanding then
        { s with board := { s.board with handoff := { s.board.handoff with trailSeen := true } } }
      else s := by
  have : s.board.queue.find? (fun x => x.state == .finishing) = none := by simpa using h
  unfold exitTrailing
  rw [this, hb]
  simp only [hr]

/-- A board that leaves the queue with its BOARD EXIT: the record gone, the frame queued with it (R73). -/
theorem removeWithExit_holds {t : Tag} {s : State} {r : BoardRecord} (c : ExitCause)
    (h : findRecord t s.board.queue = some r) :
    (removeWithExit t c s).board.queue = s.board.queue.filter (fun x => x.tag != t) ∧
    (removeWithExit t c s).board.handoff = (removeRecord t s).board.handoff ∧
    (removeWithExit t c s).board.gate = s.board.gate ∧
    (s.link.queue.length < 12 → Waits (removeWithExit t c s) allTarget (.boardExit r c)) := by
  rw [removeWithExit_of_find c h, enqueue_board]
  exact ⟨removeRecord_queue t s, rfl, removeRecord_gate t s,
    fun hq => waits_enqueue rfl (by rw [removeRecord_link]; exact hq)⟩

theorem removeWithExit_missing {t : Tag} {s : State} (c : ExitCause) (hp : s.alarm.place.length = 64) :
    (appearance aBoardMissing (removeWithExit t c s)).alarm.standing 31 = true := by
  rw [appearance_alarm]
  refine AlarmUnit.standing_appear ?_ (.inr (.inl (by decide)))
  rw [removeWithExit_alarm]
  exact hp.symm ▸ (by decide : aBoardMissing < 64)

/-- The gate closed when it was opened for the board (R59). -/
def shutFor (t : Tag) (s : State) : State :=
  { s with board := { s.board with gate := if s.board.gate = some t then none else s.board.gate } }

theorem arrivalDeadline_eq (t : Tag) (s : State) : arrivalDeadline t s = match findRecord t s.board.queue with
    | none => shutFor t s
    | some r => if r.state = .inbound then appearance aBoardMissing (removeWithExit t .arrivalDeadline (shutFor t s))
        else shutFor t s := by
  have shut : (if s.board.gate = some t then { s with board := { s.board with gate := none } } else s) = shutFor t s := by
    unfold shutFor
    split
    · rfl
    · rfl
  unfold arrivalDeadline
  simp only [shut]
  rfl

theorem exitDeadline_of_find {t : Tag} {s : State} {r : BoardRecord} (h : findRecord t s.board.queue = some r) :
    exitDeadline t s = if (r.state = .entering ∨ r.state = .inside) ∧ s.board.handoff.bound ≠ some t then
      appearance aBoardMissing (removeWithExit t .exitDeadline s) else s := by
  unfold exitDeadline
  rw [h]

theorem exitDeadline_of_none {t : Tag} {s : State} (h : findRecord t s.board.queue = none) : exitDeadline t s = s := by
  unfold exitDeadline
  rw [h]

end Sys2Proof.Machine
end

section
open Sys2Proof Sys2Proof.Machine

/-- Settles O32. -/
theorem exitEdgesAndDeadlinesMoveBoards : Obligations.ExitEdgesAndDeadlinesMoveBoards := by
  refine ⟨fun s => exitLeading_none, fun s r h => ⟨fun hb => ?_, fun hb hd => ?_, fun d hb hd hr => ?_⟩, fun s r h hr => ?_,
    fun s => exitTrailing_unbound, fun s b r h hb hr => ?_, fun t s => ⟨fun h => ?_, fun r hr hi => ?_⟩,
    fun t s => ⟨fun h => ?_, fun r hr hs hb => ?_⟩⟩
  · rw [exitLeading_some h, if_pos (Option.isSome_iff_ne_none.mpr hb)]
  · rw [exitLeading_some h, if_neg (by simp [hb]), if_pos (by simp [hd])]; rfl
  · rw [exitLeading_some h, if_neg (by simp [hb]), if_neg (by simp [hd])]
    rw [offerBoard_of_find (s := { s with board := { s.board with handoff := ⟨some r.tag, true, false, none⟩ } }) hr hd]
    exact ⟨enqueue_board .., fun hq => waits_enqueue (s := { s with board := { s.board with
      handoff := ⟨some r.tag, true, false, none⟩ } }) rfl hq⟩
  · rw [exitTrailing_finishing h]
    obtain ⟨queue, -, -, waits⟩ := removeWithExit_holds .done hr
    exact ⟨queue, waits⟩
  · have unbound : (removeRecord b s).board.handoff.bound = none := by
      rw [removeRecord_handoff hr, if_pos hb]; rfl
    rw [exitTrailing_bound h hb hr]
    refine ⟨fun ho => ?_, fun hk => ?_, fun ho hk hout => ?_, fun ho hk hout => ?_⟩
    · rw [if_pos ho]
      exact ⟨removeRecord_queue b s, unbound, removeRecord_link b s⟩
    · rw [if_neg (by simp [hk]), if_pos hk]
      obtain ⟨queue, handoff, -, waits⟩ := removeWithExit_holds .leftUnaccepted hr
      exact ⟨queue, by rw [handoff]; exact unbound, waits⟩
    · rw [if_neg ho, if_neg hk, if_pos hout]
    · rw [if_neg ho, if_neg hk, if_neg (by simp [hout])]
  · rw [arrivalDeadline_eq]
    cases hr : findRecord t s.board.queue with
    | none => rfl
    | some r => exact if_neg (h r hr)
  · rw [arrivalDeadline_eq, hr]
    simp only [if_pos hi]
    have held : findRecord t (shutFor t s).board.queue = some r := hr
    obtain ⟨queue, -, gate, waits⟩ := removeWithExit_holds .arrivalDeadline held
    refine ⟨?_, ?_, fun hp => ?_, fun hq => ?_⟩
    · rw [appearance_board, gate]; rfl
    · rw [appearance_board, queue]; rfl
    · exact removeWithExit_missing (s := shutFor t s) .arrivalDeadline hp
    · rw [appearance_link]; exact waits hq
  · cases hr : findRecord t s.board.queue with
    | none => exact exitDeadline_of_none hr
    | some r =>
      rw [exitDeadline_of_find hr, if_neg]
      rintro ⟨hs, hb⟩
      rcases h r hr with ⟨he, hi⟩ | hb'
      · exact hs.elim he hi
      · exact hb hb'
  · obtain ⟨queue, -, -, waits⟩ := removeWithExit_holds .exitDeadline hr
    rw [exitDeadline_of_find hr, if_pos ⟨hs, hb⟩]
    refine ⟨?_, removeWithExit_missing .exitDeadline, fun hq => ?_⟩
    · rw [appearance_board, queue]
    · rw [appearance_link]; exact waits hq

end

section
/-! Resolving a product and the pages of a board (R81, R83, R88, R92 to R95). -/
namespace Sys2Proof.Machine

/-! ### Fetches (R83) -/

theorem startFetch_full {i : Nat} {e : DirEntry} {s : State} (h : s.recipe.entry i = some e)
    (hf : e.full s.cfg.functions = true) : startFetch i s =
      { s with recipe := s.recipe.setEntry i (some { e with fetch := .complete, timer := none }) } := by
  unfold startFetch
  rw [h]
  exact if_pos hf

theorem startFetch_short {i : Nat} {e : DirEntry} {s : State} (h : s.recipe.entry i = some e)
    (hf : e.full s.cfg.functions = false) : startFetch i s =
      enqueue .recipes (toStation s.cfg.panel) (.recipeRequest e.product (e.missing s.cfg.functions .heat)
        (e.missing s.cfg.functions .flux) (e.missing s.cfg.functions .wave))
        { s with recipe := s.recipe.setEntry i (some { e with fetch := .fetching, timer := some 0 }) } := by
  unfold startFetch
  rw [h]
  exact if_neg (by simp [hf])

/-- A fetch leaves the other entries alone. -/
theorem startFetch_entry_ne {i j : Nat} (h : j ≠ i) (s : State) : (startFetch i s).recipe.entry j = s.recipe.entry j := by
  cases he : s.recipe.entry i with
  | none => unfold startFetch; rw [he]
  | some e =>
    cases hf : e.full s.cfg.functions with
    | true => rw [startFetch_full he hf]; exact entry_setEntry_ne _ h
    | false => rw [startFetch_short he hf, enqueue_recipe]; exact entry_setEntry_ne _ h

theorem startFetch_entry {i : Nat} {e : DirEntry} {s : State} (h : s.recipe.entry i = some e) :
    (startFetch i s).recipe.entry i = some { e with
      fetch := if e.full s.cfg.functions then .complete else .fetching
      timer := if e.full s.cfg.functions then none else some 0 } := by
  have hi := lt_of_entry h
  cases hf : e.full s.cfg.functions with
  | true => rw [startFetch_full h hf]; exact entry_setEntry _ _ hi
  | false => rw [startFetch_short h hf, enqueue_recipe]; exact entry_setEntry _ _ hi

/-- Room given, a fetch that starts asks the panel for what is missing. -/
theorem startFetch_waits {i : Nat} {e : DirEntry} {s : State} (h : s.recipe.entry i = some e)
    (hf : e.full s.cfg.functions = false) (hq : s.link.queue.length < 12) :
    Waits (startFetch i s) (toStation s.cfg.panel) (.recipeRequest e.product (e.missing s.cfg.functions .heat)
      (e.missing s.cfg.functions .flux) (e.missing s.cfg.functions .wave)) := by
  rw [startFetch_short h hf]
  refine waits_enqueue rfl ?_
  exact hq

/-! ### Resolution (R81, R88) -/

theorem resolve_service {c : Nat} (s : State) (h : 1048560 ≤ c) (h' : c ≤ 1048575) :
    resolve (some c) s = (.service (c - 1048560), s) := by
  unfold resolve
  exact if_pos (by simp [isServiceCode, h, h'])

theorem resolve_live {c i : Nat} {e : DirEntry} {s : State} (hc : c < 1048560) (h : s.recipe.liveEntry c = some i)
    (he : s.recipe.entry i = some e) : resolve (some c) s = (.entry i,
      if e.fetch = .failed then startFetch i
        { s with recipe := s.recipe.setEntry i (some { e with count := e.count + 1, used := true }) }
      else { s with recipe := s.recipe.setEntry i (some { e with count := e.count + 1, used := true }) }) := by
  have hold : s.recipe.hold i = s.recipe.setEntry i (some { e with count := e.count + 1, used := true }) := by
    unfold RecipeStore.hold; rw [he]
  unfold resolve
  simp only [if_neg (show ¬ isServiceCode c = true by simp [isServiceCode]; omega), h, he, hold]

theorem resolve_new {c : Nat} {s : State} (hc : c < 1048560) (h : s.recipe.liveEntry c = none) :
    resolve (some c) s = enterProduct c s := by
  unfold resolve
  simp only [if_neg (show ¬ isServiceCode c = true by simp [isServiceCode]; omega), h]

theorem roomForProduct_free {st : RecipeStore} {i : Nat} (h : st.freeEntry = some i) : st.roomForProduct = (some i, st) := by
  unfold RecipeStore.roomForProduct
  rw [h]

/-- The entry of a new product, before its fetch starts (R88). -/
def newEntry (c : Nat) (s : State) : DirEntry := ⟨c, true, .fetching, none, none, none, true, unenteredCount c s + 1, none⟩

/-- The state with a new product's entry in the directory and its references joined, before its fetch starts (R88). -/
def entered (c i : Nat) (s : State) : State :=
  joinUnentered c i { s with recipe := s.recipe.setEntry i (some (newEntry c s)) }

theorem enterProduct_free {c i : Nat} {s : State} (h : s.recipe.freeEntry = some i) :
    enterProduct c s = (.entry i, startFetch i (entered c i s)) := by
  unfold enterProduct
  simp only [roomForProduct_free h]
  rfl

theorem enterProduct_noRoom {c : Nat} {s : State} (h : s.recipe.roomForProduct.1 = none) :
    enterProduct c s = (.unentered c, appearance aDirectoryFull { s with recipe := s.recipe.roomForProduct.2 }) := by
  unfold enterProduct
  simp only [h]

theorem lt_of_freeEntry {st : RecipeStore} {i : Nat} (h : st.freeEntry = some i) : i < 32 :=
  List.mem_range.mp (List.mem_of_find?_eq_some h)

/-! ### The first use (R95) -/

theorem firstUse_of_find {t : Tag} {s : State} {r : BoardRecord} (h : findRecord t s.board.queue = some r) :
    firstUse t s = if s.recipe.status r.ref = .fetching then
      appearance aBoardDefaulted (addException t xRecipeDefaulted 0
        (mapRecord t (fun r => { r with ref := .default }) (releaseRef r.ref s))) else s := by
  unfold firstUse
  rw [h]

/-! ### The page of a board (R92, R93) -/

theorem earlierRefs_append {t : Tag} {pre : List BoardRecord} {r : BoardRecord} (post : List BoardRecord) (l : List Ref)
    (h : ∀ x ∈ pre, x.tag ≠ t) (hr : r.tag = t) : earlierRefs t (pre ++ r :: post) l = (pre.map (·.ref)).reverse ++ l := by
  induction pre generalizing l with
  | nil => simp [earlierRefs, hr]
  | cons x xs ih =>
    rw [List.cons_append, earlierRefs, if_neg (by simpa using h x (List.mem_cons_self ..)),
      ih _ fun y hy => h y (List.mem_cons_of_mem _ hy)]
    simp

theorem boardPage_append {s : State} {pre post : List BoardRecord} {r : BoardRecord} (hq : s.board.queue = pre ++ r :: post)
    (h : ∀ x ∈ pre, x.tag ≠ r.tag) (k : PageKind) :
    boardPage r.tag k s = refPage s (pre.map (·.ref)).reverse k r.ref := by
  have found : findRecord r.tag s.board.queue = some r := by
    rw [hq, findRecord, List.find?_append, List.find?_eq_none.mpr (by simpa using h)]
    simp
  unfold boardPage
  rw [found, hq, earlierRefs_append post [] h rfl, List.append_nil]

/-- Service references are passed over (R93). -/
theorem inheritedPage_append {s : State} {b : List Ref} (h : ∀ x ∈ b, ∃ m, x = .service m) (a : List Ref) (k : PageKind) :
    inheritedPage s (b ++ a) k = inheritedPage s a k := by
  induction b with
  | nil => rfl
  | cons x xs ih =>
    obtain ⟨m, rfl⟩ := h x (List.mem_cons_self ..)
    exact Eq.trans rfl (ih fun y hy => h y (List.mem_cons_of_mem _ hy))

theorem inheritedPage_entry (s : State) (i : Nat) (a : List Ref) (k : PageKind) : inheritedPage s (.entry i :: a) k =
    if s.recipe.status (.entry i) = .resolved then (s.recipe.pageOf i k).getD (s.cfg.defaultPage k)
    else s.cfg.defaultPage k := rfl

theorem inheritedPage_of_services {s : State} {l : List Ref} (h : ∀ r ∈ l, ∃ m, r = .service m) (k : PageKind) :
    inheritedPage s l k = s.cfg.defaultPage k := by
  rw [← List.append_nil l, inheritedPage_append h]; rfl

/-- The page inherited from the nearest earlier reference, when that is no service reference (R93). -/
theorem inheritedPage_of_nearest {s : State} {a b : List Ref} {r : Ref} (hb : ∀ x ∈ b, ∃ m, x = .service m)
    (hr : ∀ m, r ≠ .service m) (k : PageKind) :
    (s.recipe.status r ≠ .resolved → inheritedPage s (b ++ r :: a) k = s.cfg.defaultPage k) ∧
    ∀ i p, r = .entry i → s.recipe.status r = .resolved → s.recipe.pageOf i k = some p →
      inheritedPage s (b ++ r :: a) k = p := by
  rw [inheritedPage_append hb]
  cases r with
  | service m => exact absurd rfl (hr m)
  | entry i =>
    rw [inheritedPage_entry]
    refine ⟨fun h => if_neg h, fun i' p hi h hp => ?_⟩
    obtain rfl := Ref.entry.inj hi
    rw [if_pos h, hp]; rfl
  | default => exact ⟨fun _ => rfl, nofun⟩
  | unentered c => exact ⟨fun _ => rfl, nofun⟩

theorem status_complete {st : RecipeStore} {i : Nat} {e : DirEntry} (h : st.entry i = some e) (hf : e.fetch = .complete) :
    st.status (.entry i) = .resolved := by simp [RecipeStore.status, h, hf]

theorem pageOf_resident {st : RecipeStore} {i : Nat} {e : DirEntry} {k : PageKind} {x : Resident}
    (h : st.entry i = some e) (hx : e.page k = some x) : st.pageOf i k = st.slots.getD x.slot none := by
  simp [RecipeStore.pageOf, h, hx]

end Sys2Proof.Machine
end

section
open Sys2Proof Sys2Proof.Machine

/-- Settles O33. -/
theorem productsAreResolved : Obligations.ProductsAreResolved := by
  refine ⟨fun s => rfl, fun c s => resolve_service s, fun c s i e hc hl he => ?_, fun c s i hc hl hf hd => ?_,
    fun c s hc hl hr => ?_, fun t s r hr => ⟨fun hs => ?_, fun hs => ?_⟩, fun t s => ⟨fun p => ?_, fun p => ?_, fun k hn => ?_⟩,
    fun s pre r post k d plan hq hpre hk => ?_⟩
  · have hi := lt_of_entry he
    rw [resolve_live hc hl he]
    refine ⟨rfl, fun hn => if_neg hn, fun hfail hfull => ?_⟩
    simp only [if_pos hfail]
    generalize hu : ({ s with recipe := s.recipe.setEntry i (some { e with count := e.count + 1, used := true }) } : State) = u
    have held : u.recipe.entry i = some { e with count := e.count + 1, used := true } := by
      rw [← hu]; exact entry_setEntry _ _ hi
    have short : DirEntry.full u.cfg.functions { e with count := e.count + 1, used := true } = false := by
      rw [← hu]; exact hfull
    refine ⟨?_, fun hq => ?_⟩
    · rw [startFetch_entry held, short]; rfl
    · have waits := startFetch_waits held short (by rw [← hu]; exact hq)
      rw [← hu] at waits ⊢
      exact waits
  · have hi := lt_of_freeEntry hf
    have held : (entered c i s).recipe.entry i = some (newEntry c s) := entry_setEntry _ _ (by omega)
    have full : (newEntry c s).full (entered c i s).cfg.functions =
        !(s.cfg.functions.needs .heat || s.cfg.functions.needs .flux || s.cfg.functions.needs .wave) := by
      change (newEntry c s).full s.cfg.functions = _
      simp [DirEntry.full, DirEntry.missing, DirEntry.page, newEntry]
    rw [resolve_new hc hl, enterProduct_free hf]
    refine ⟨rfl, ⟨_, startFetch_entry held, rfl, rfl, rfl, rfl, rfl, rfl, rfl, ?_, ?_⟩, fun j hj => ?_, ?_, ?_, fun hn hq => ?_⟩
    · simp only [full]
    · simp only [full]
    · rw [startFetch_entry_ne hj]; exact entry_setEntry_ne _ hj
    · rw [startFetch_board]; rfl
    · rw [startFetch_board]; rfl
    · have waits := startFetch_waits held (full.trans hn) hq
      have cfg : (entered c i s).cfg = s.cfg := rfl
      simpa [DirEntry.missing, DirEntry.page, newEntry, Waits, cfg] using waits
  · rw [resolve_new hc hl, enterProduct_noRoom hr]
    refine ⟨rfl, rfl, fun hp => ?_⟩
    rw [appearance_alarm]
    exact AlarmUnit.standing_appear (hp.symm ▸ (by decide : aDirectoryFull < 64)) (.inr (.inl (by decide)))
  · rw [firstUse_of_find hr, if_neg hs]
  · rw [firstUse_of_find hr, if_pos hs]
    have mapped : findRecord t (mapRecord t (fun r => { r with ref := .default }) (releaseRef r.ref s)).board.queue =
        some { r with ref := .default } := findRecord_mapRecord (s := releaseRef r.ref s) (fun _ => rfl) hr
    refine ⟨rfl, fun hp => ?_, _, findRecord_addException _ _ mapped, ?_, ?_, fun hl => mem_addException hl⟩
    · rw [appearance_alarm]
      exact AlarmUnit.standing_appear (hp.symm ▸ (by decide : aBoardDefaulted < 64)) (.inr (.inl (by decide)))
    · unfold BoardRecord.addException
      split
      · rfl
      · split <;> rfl
    · unfold BoardRecord.addException
      split
      · rfl
      · split <;> rfl
  · unfold boardFlux
    split <;> simp_all
  · unfold boardWave
    split <;> simp_all
  · have none : findRecord t s.board.queue = none := by simpa [findRecord] using hn
    unfold boardPage
    rw [none]
  · have whole : d = s.cfg.defaultPage k ∧ ∀ l n, refPage s l k (.service n) = planPage s l k (plan (s.cfg.service n)) := by
      rcases hk with ⟨rfl, rfl, rfl⟩ | ⟨rfl, rfl, rfl⟩ <;> exact ⟨rfl, fun _ _ => rfl⟩
    obtain ⟨rfl, service⟩ := whole
    simp only [boardPage_append hq hpre]
    refine ⟨fun h => by rw [h]; rfl, fun c h => by rw [h]; rfl, fun i h hs => ?_, fun i e x h he hc hx => ?_, fun n h => ?_⟩
    · rw [h] at hs ⊢
      exact if_neg hs
    · rw [h]
      exact (if_pos (status_complete he hc)).trans (pageOf_resident he hx)
    · rw [h, service]
      refine ⟨fun hp => by rw [hp]; rfl, fun hp => by rw [hp]; rfl, fun hp => ?_⟩
      rw [hp]
      refine ⟨fun hall => congrArg some (inheritedPage_of_services (by simpa using hall) k), fun a y b hab hb hy => ?_⟩
      have split : (pre.map (·.ref)).reverse = (b.map (·.ref)).reverse ++ y.ref :: (a.map (·.ref)).reverse := by
        rw [hab]; simp
      obtain ⟨unresolved, resolved⟩ := inheritedPage_of_nearest (s := s) (a := (a.map (·.ref)).reverse)
        (b := (b.map (·.ref)).reverse) (by simpa using hb) hy k
      rw [split]
      refine ⟨fun hs => congrArg some (unresolved hs), fun i e x p hi he hc hx hs => congrArg some (resolved i p hi ?_ ?_)⟩
      · rw [hi]; exact status_complete he hc
      · rw [pageOf_resident he hx]; exact hs

end

section
/-! The two sweeps of the recipe store (R86, R87). -/
namespace Sys2Proof.Machine

/-- How far an entry stands from the hand, in rising number and wrapping. -/
def far (hand j : Nat) : Nat := (j + 32 - hand) % 32

theorem far_succ {hand j : Nat} (hh : hand < 32) (hj : j < 32) (ne : j ≠ hand) :
    far hand j = far ((hand + 1) % 32) j + 1 := by
  unfold far; omega

theorem far_self {hand : Nat} : far hand hand = 0 := by unfold far; omega

theorem far_last {hand : Nat} (hh : hand < 32) : far ((hand + 1) % 32) hand = 31 := by unfold far; omega

/-- A sweep has looked at the m entries from the hand on: none of them could be evicted, and the unreferenced ones
have lost their used bit; the others but the one evicted stand. -/
def Looked (pass : Nat → DirEntry → Bool) (m : Nat) (evicted : Option Nat) (st st' : RecipeStore) : Prop :=
  ∀ j e, j < 32 → evicted ≠ some j → st.entry j = some e →
    (far st.hand j < m → pass j e = true ∨ e.count ≠ 0 ∨ e.used = true) ∧
    st'.entry j = some (if far st.hand j < m ∧ pass j e = false ∧ e.count = 0 then { e with used := false } else e)

variable {pass : Nat → DirEntry → Bool} {st st₁ st' : RecipeStore}

theorem Looked.nothing (h : ∀ j, evicted ≠ some j → st'.entry j = st.entry j) : Looked pass 0 evicted st st' := by
  intro j e _ hj he
  rw [h j hj, he, if_neg (by simp)]
  exact ⟨fun h => absurd h (Nat.not_lt_zero _), rfl⟩

/-- One entry looked at, and then m more. -/
theorem Looked.step {m : Nat} {evicted : Option Nat} (hh : st.hand < 32) (hand : st₁.hand = (st.hand + 1) % 32)
    (others : ∀ j, j ≠ st.hand → st₁.entry j = st.entry j)
    (here : ∀ e, st.entry st.hand = some e → (pass st.hand e = true ∨ e.count ≠ 0 ∨ e.used = true) ∧
      st₁.entry st.hand = some (if pass st.hand e = false ∧ e.count = 0 then { e with used := false } else e))
    (hm : m ≤ 31) (h : Looked pass m evicted st₁ st') :
    Looked pass (m + 1) evicted st st' := by
  intro j e hj hev he
  by_cases hjh : j = st.hand
  · subst hjh
    obtain ⟨spared, now⟩ := here e he
    have kept := (h st.hand _ hj hev now).2
    rw [hand, far_last hh, if_neg (by omega)] at kept
    rw [far_self, kept]
    exact ⟨fun _ => spared, by simp⟩
  · have stands := h j e hj hev (by rw [others j hjh, he])
    rw [hand] at stands
    rw [far_succ hh hj hjh]
    simpa using stands

/-! ### What a sweep finds -/

/-- A sweep over n entries from the hand: the first that it can evict is freed and the hand stands after it, or
none is and the hand has moved on by n. -/
structure Swept (pass : Nat → DirEntry → Bool) (n : Nat) (st : RecipeStore) (r : Option Nat × RecipeStore) : Prop where
  evicts : ∀ i, r.1 = some i → i < 32 ∧ far st.hand i < n ∧ r.2.hand = (i + 1) % 32 ∧ r.2.entry i = none ∧
    Looked pass (far st.hand i) (some i) st r.2 ∧
    ∃ e, st.entry i = some e ∧ pass i e = false ∧ e.count = 0 ∧ e.used = false ∧
      r.2.slots = (st.freeSlots e.slots).slots
  spares : r.1 = none → r.2.hand = (st.hand + n) % 32 ∧ r.2.slots = st.slots ∧ Looked pass n none st r.2
  empty : ∀ j, st.entry j = none → r.2.entry j = none

/-- A sweep goes on from the next entry. -/
theorem Swept.step {n : Nat} {r : Option Nat × RecipeStore} (hh : st.hand < 32) (hn : n + 1 ≤ 32)
    (hand : st₁.hand = (st.hand + 1) % 32) (slots : st₁.slots = st.slots)
    (others : ∀ j, j ≠ st.hand → st₁.entry j = st.entry j)
    (here : ∀ e, st.entry st.hand = some e → (pass st.hand e = true ∨ e.count ≠ 0 ∨ e.used = true) ∧
      st₁.entry st.hand = some (if pass st.hand e = false ∧ e.count = 0 then { e with used := false } else e))
    (none' : st.entry st.hand = none → st₁.entry st.hand = none)
    (h : Swept pass n st₁ r) : Swept pass (n + 1) st r := by
  refine ⟨fun i hi => ?_, fun hi => ?_, fun j hj => h.empty j ?_⟩
  · obtain ⟨lt, near, after, gone, looked, e, he, hp, hc, hu, freed⟩ := h.evicts i hi
    rw [hand] at near
    have ne : i ≠ st.hand := by rintro rfl; rw [far_last hh] at near; omega
    have away := far_succ hh lt ne
    refine ⟨lt, by omega, after, gone, ?_, e, by rw [← others i ne, he], hp, hc, hu, ?_⟩
    · rw [away]
      rw [hand] at looked
      exact looked.step hh hand others here (by omega)
    · rw [freed]; simp only [RecipeStore.freeSlots, slots]
  · obtain ⟨after, same, looked⟩ := h.spares hi
    exact ⟨by rw [after, hand]; omega, by rw [same, slots], looked.step hh hand others here (by omega)⟩
  · by_cases e : j = st.hand
    · subst e; exact none' hj
    · rw [others j e, hj]

theorem sweep_swept {n : Nat} (hd : st.dir.length = 32) (hh : st.hand < 32) (hn : n ≤ 32) :
    Swept pass n st (st.sweep pass n) := by
  induction n generalizing st with
  | zero =>
    exact ⟨nofun, fun _ => ⟨(Nat.mod_eq_of_lt hh).symm, rfl, .nothing fun _ _ => rfl⟩, fun _ h => h⟩
  | succ n ih =>
    have next := ih (st := { st with hand := (st.hand + 1) % 32 }) hd (Nat.mod_lt _ (by decide)) (by omega)
    rw [RecipeStore.sweep]
    cases he : st.entry st.hand with
    | none =>
      exact Swept.step (st₁ := { st with hand := (st.hand + 1) % 32 }) hh hn rfl rfl (fun _ _ => rfl) (by rw [he]; nofun) (fun h => h) next
    | some e =>
      simp only []
      by_cases hp : pass st.hand e = true ∨ e.count ≠ 0
      · rw [if_pos (by simpa using hp)]
        refine Swept.step (st₁ := { st with hand := (st.hand + 1) % 32 }) hh hn rfl rfl (fun _ _ => rfl) (fun x hx => ?_)
          (fun h => h) next
        obtain rfl := Option.some.inj (he.symm.trans hx)
        refine ⟨hp.imp_right .inl, ?_⟩
        rw [if_neg (by rintro ⟨h1, h2⟩; rcases hp with h | h <;> simp_all)]
        exact he
      · rw [not_or, Classical.not_not] at hp
        obtain ⟨hpass, hcount⟩ := hp
        rw [if_neg (by simp [hpass, hcount])]
        by_cases hu : e.used = true
        · rw [if_pos hu]
          refine Swept.step (st₁ := RecipeStore.setEntry st.hand (some { e with used := false }) { st with
            hand := (st.hand + 1) % 32 }) hh hn rfl rfl (fun j hj => entry_setEntry_ne _ hj) (fun x hx => ?_)
            (by rw [he]; nofun) (ih ?_ (Nat.mod_lt _ (by decide)) (by omega))
          · obtain rfl := Option.some.inj (he.symm.trans hx)
            refine ⟨.inr (.inr hu), ?_⟩
            rw [if_pos ⟨by simpa using hpass, hcount⟩]
            exact entry_setEntry _ _ (by rw [show RecipeStore.dir _ = st.dir from rfl, hd]; exact hh)
          · simpa [RecipeStore.setEntry] using hd
        · rw [if_neg hu]
          refine ⟨fun i hi => ?_, nofun, fun j hj => ?_⟩
          · obtain rfl := Option.some.inj hi
            refine ⟨hh, by rw [far_self]; omega, rfl, entry_free _ _, ?_, e, he, by simpa using hpass, hcount,
              by simpa using hu, rfl⟩
            rw [far_self]
            exact .nothing fun j hj => entry_free_ne e fun h => hj (by rw [h])
          · by_cases h : j = st.hand
            · subst h; rw [he] at hj; exact absurd hj nofun
            · exact (entry_free_ne e h).trans hj

/-! ### Room for a product and for a page -/

theorem roomForProduct_full (h : st.freeEntry = none) : st.roomForProduct = st.sweep (fun _ _ => false) 32 := by
  unfold RecipeStore.roomForProduct
  rw [h]

/-- The entries that the page-store sweep for entry i passes (R87). -/
def passedFor (i j : Nat) (e : DirEntry) : Bool := j == i || e.slots.isEmpty

theorem roomForPage_full {i : Nat} (h : st.freeSlot = none) : st.roomForPage i =
    ((st.sweep (passedFor i) 32).1.bind fun _ => (st.sweep (passedFor i) 32).2.freeSlot, (st.sweep (passedFor i) 32).2) := by
  unfold RecipeStore.roomForPage
  rw [h]
  simp only []
  change (match (st.sweep (passedFor i) 32).1 with | none => _ | some _ => _) = _
  split
  · rename_i e; rw [e]; rfl
  · rename_i e; rw [e]; rfl

theorem freeSlot_isSome {n : Nat} (hn : n < 64) (h : st.slots.getD n none = none) : st.freeSlot ≠ none := by
  unfold RecipeStore.freeSlot
  rw [Ne, List.find?_eq_none]
  exact fun g => g n (List.mem_range.mpr hn) (by rw [h]; rfl)

theorem slot_of_freeSlot {n : Nat} (h : st.freeSlot = some n) : st.slots.getD n none = none := by
  simpa using List.find?_some h

end Sys2Proof.Machine
end

section
open Sys2Proof Sys2Proof.Machine

/-- Settles O34. -/
theorem sweepsEvict : Obligations.SweepsEvict := by
  refine ⟨fun st i => roomForProduct_free, fun st hd hh hf => ?_, fun st i n => roomForPage_free, fun st i hd hh hs hsl hf => ?_⟩
  · have swept : Swept (fun _ _ => false) 32 st _ := sweep_swept hd hh (Nat.le_refl 32)
    rw [roomForProduct_full hf]
    refine ⟨fun i hi => ?_, fun hn => ?_⟩
    · obtain ⟨lt, -, hand, gone, looked, e, he, -, hc, hu, freed⟩ := swept.evicts i hi
      refine ⟨lt, hand, gone, ⟨e, he, hc, hu, fun n hn => ?_⟩, fun j x hj hx hf => ?_, fun j x hj ne hx => ?_⟩
      · rw [freed]
        exact (getD_foldl_set_none ..).trans (if_pos hn)
      · have ne : j ≠ i := by rintro rfl; exact absurd hf (Nat.lt_irrefl _)
        exact ((looked j x hj (by simpa using ne.symm) hx).1 hf).resolve_left nofun
      · exact (looked j x hj (by simpa using ne.symm) hx).2.trans (congrArg some (ite_of_iff (by simp [far]) rfl rfl))
    · obtain ⟨hand, slots, looked⟩ := swept.spares hn
      refine ⟨by rw [hand]; omega, slots, fun j e hj he => ?_⟩
      have near : far st.hand j < 32 := Nat.mod_lt _ (by decide)
      obtain ⟨spared, now⟩ := looked j e hj nofun he
      exact ⟨(spared near).resolve_left nofun, by simpa [near] using now⟩
  · have swept : Swept (passedFor i) 32 st _ := sweep_swept hd hh (Nat.le_refl 32)
    rw [roomForPage_full hf]
    have passed {j : Nat} {e : DirEntry} (ne : j ≠ i) : passedFor i j e = true ↔ e.slots = [] := by simp [passedFor, ne]
    have unpassed {j : Nat} {e : DirEntry} (ne : j ≠ i) : passedFor i j e = false ↔ e.slots ≠ [] := by
      rw [← Bool.not_eq_true, passed ne]
    have wants {e : DirEntry} : passedFor i i e = true := by simp [passedFor]
    refine ⟨?_, fun n hn => ?_, fun hn => ?_⟩
    · cases hi : st.entry i with
      | none => exact swept.empty i hi
      | some e =>
        have lt := hd ▸ lt_of_entry hi
        cases hr : (st.sweep (passedFor i) 32).1 with
        | none => simpa [wants] using ((swept.spares hr).2.2 i e lt nofun hi).2
        | some j =>
          obtain ⟨-, -, -, -, looked, x, hx, hp, -⟩ := swept.evicts j hr
          have ne : j ≠ i := by rintro rfl; rw [wants] at hp; exact absurd hp nofun
          simpa [wants] using (looked i e lt (by simpa using ne) hi).2
    · obtain ⟨j, hj, free⟩ := Option.bind_eq_some_iff.mp hn
      obtain ⟨lt, -, hand, gone, looked, e, he, hp, hc, hu, freed⟩ := swept.evicts j hj
      have ne : j ≠ i := by rintro rfl; rw [wants] at hp; exact absurd hp nofun
      refine ⟨slot_of_freeSlot free, j, e, lt, ne, he, hc, hu, (unpassed ne).mp hp, gone, hand, fun m hm => ?_,
        fun k x hk nek hx hf => ?_, fun k x hk nek nej hx => ?_⟩
      · rw [freed]
        exact (getD_foldl_set_none ..).trans (if_pos hm)
      · have nej : k ≠ j := by rintro rfl; exact absurd hf (Nat.lt_irrefl _)
        have spared := (looked k x hk (by simpa using nej.symm) hx).1 hf
        rw [passed nek] at spared
        exact or_assoc.mp spared.symm
      · have now := (looked k x hk (by simpa using nej.symm) hx).2
        refine now.trans (congrArg some (ite_of_iff ?_ rfl rfl))
        rw [unpassed nek]
        exact ⟨fun ⟨a, b, c⟩ => ⟨a, c, b⟩, fun ⟨a, b, c⟩ => ⟨a, c, b⟩⟩
    · have nobody : (st.sweep (passedFor i) 32).1 = none := by
        refine Classical.byContradiction fun h => ?_
        obtain ⟨j, hj⟩ := Option.ne_none_iff_exists'.mp h
        rw [hj] at hn
        obtain ⟨-, -, -, -, -, e, he, hp, -, -, freed⟩ := swept.evicts j hj
        have ne : j ≠ i := by rintro rfl; rw [wants] at hp; exact absurd hp nofun
        obtain ⟨n, hm⟩ := List.exists_mem_of_ne_nil _ ((unpassed ne).mp hp)
        refine freeSlot_isSome (hsl j e he n hm) ?_ hn
        rw [freed]
        exact (getD_foldl_set_none ..).trans (if_pos hm)
      obtain ⟨hand, slots, looked⟩ := swept.spares nobody
      refine ⟨by rw [hand]; omega, slots, fun j e hj ne he => ?_⟩
      have near : far st.hand j < 32 := Nat.mod_lt _ (by decide)
      obtain ⟨spared, now⟩ := looked j e hj nofun he
      have spared := spared near
      rw [passed ne] at spared
      refine ⟨or_assoc.mp spared.symm, now.trans (congrArg some (ite_of_iff ?_ rfl rfl))⟩
      rw [unpassed ne]
      exact ⟨fun ⟨_, b, c⟩ => ⟨c, b⟩, fun ⟨c, b⟩ => ⟨near, b, c⟩⟩

end

section
/-! One sample's regulation (R113 to R116), on the channel alone. -/
namespace Sys2Proof.Machine

variable {cfg : ChannelCfg} {c : Channel} {h : Nat} {zero missing : Bool}

/-! ### The proportional term and the integrator -/

theorem error_bounds (c : Channel) : -2000 ≤ c.error ∧ c.error ≤ 2000 := by unfold Channel.error; omega

theorem proportional_bounds (hk : cfg.kp ≤ 255) : -51000 ≤ c.proportional cfg ∧ c.proportional cfg ≤ 51000 := by
  obtain ⟨low, high⟩ := error_bounds c
  have least := Int.mul_le_mul_of_nonneg_left low (Int.natCast_nonneg cfg.kp)
  have most := Int.mul_le_mul_of_nonneg_left high (Int.natCast_nonneg cfg.kp)
  have lower : (-510000 : Int) ≤ cfg.kp * c.error := by omega
  have upper : (cfg.kp : Int) * c.error ≤ 510000 := by omega
  exact ⟨Int.tdiv_le_tdiv (by decide) lower, Int.tdiv_le_tdiv (by decide) upper⟩

/-- The integrator stands with mains missing and where a limit holds it. -/
theorem integrate_held (hm : missing = true ∨ (0 < c.error ∧ c.limUp = true) ∨ (c.error < 0 ∧ c.limDown = true)) :
    c.integrate cfg missing = c.iacc := by
  unfold Channel.integrate
  rw [if_pos]
  simpa [or_assoc] using hm

theorem integrate_moves (hu : ¬(0 < c.error ∧ c.limUp = true)) (hd : ¬(c.error < 0 ∧ c.limDown = true)) :
    (c.integrate cfg false : Int) = max 0 (min 256000 (c.iacc + cfg.ki * c.error)) := by
  unfold Channel.integrate
  have free : ¬((false || (decide (0 < c.error) && c.limUp) || (decide (c.error < 0) && c.limDown)) = true) := by
    simp only [Bool.false_or, Bool.or_eq_true, Bool.and_eq_true, decide_eq_true_eq]
    exact not_or.mpr ⟨hu, hd⟩
  rw [if_neg free]
  omega

theorem integrate_le (hi : c.iacc ≤ 256000) : c.integrate cfg missing ≤ 256000 := by
  unfold Channel.integrate
  split
  · exact hi
  · omega

/-! ### Ceilings and outputs -/

theorem natCast_min (a b : Nat) : ((min a b : Nat) : Int) = min (a : Int) b := by omega

theorem clampDuty_cast (v : Int) : (clampDuty v : Int) = max 0 (min 1000 v) := by unfold clampDuty; omega

theorem clampDuty_le (v : Int) : clampDuty v ≤ 1000 := by unfold clampDuty; omega

theorem extractionCeiling_eq (fn : ChFunction) (zero : Bool) :
    extractionCeiling fn zero = if fn.preheat = true ∧ zero = true then 0 else 1000 := by
  simp [extractionCeiling]

theorem countLimited_limited (cut : Bool) (c : Channel) :
    (c.countLimited cut).limited = if cut then (c.limited + 1) % 65536 else c.limited := by
  unfold Channel.countLimited; split <;> rfl

theorem regulate_uc : (c.regulate cfg h zero missing).uc = if missing then 0 else
    min (clampDuty (c.rawOutput cfg (c.integrate cfg missing))) (min c.guardCeiling (extractionCeiling cfg.fn zero)) := rfl

theorem regulate_duty : (c.regulate cfg h zero missing).duty =
    min (c.regulate cfg h zero missing).uc (capDuty cfg h) := rfl

theorem regulate_history : (c.regulate cfg h zero missing).history =
    c.history.drop 1 ++ [(c.regulate cfg h zero missing).duty] := rfl

theorem regulate_limUp : (c.regulate cfg h zero missing).limUp = if missing then c.limUp else
    decide (1000 < c.rawOutput cfg (c.integrate cfg missing)) ||
      decide (min c.guardCeiling (extractionCeiling cfg.fn zero) < clampDuty (c.rawOutput cfg (c.integrate cfg missing))) ||
      decide ((c.regulate cfg h zero missing).duty < (c.regulate cfg h zero missing).uc) := rfl

theorem regulate_limDown : (c.regulate cfg h zero missing).limDown = if missing then c.limDown else
    decide (c.rawOutput cfg (c.integrate cfg missing) < 0) := rfl

theorem regulate_limited : (c.regulate cfg h zero missing).limited =
    if (c.regulate cfg h zero missing).duty < (c.regulate cfg h zero missing).uc ∨
      (extractionCeiling cfg.fn zero = 0 ∧ 0 < min (clampDuty (c.rawOutput cfg (c.integrate cfg missing))) c.guardCeiling)
    then (c.limited + 1) % 65536 else c.limited := by
  refine (countLimited_limited _ c).trans (ite_of_iff ?_ rfl rfl)
  simp only [Bool.or_eq_true, Bool.and_eq_true, decide_eq_true_eq, beq_iff_eq]
  rfl

/-! ### Output by mode -/

theorem drive_regulating (hm : c.mode = .regulating) : c.drive cfg h zero missing = c.regulate cfg h zero missing := by
  unfold Channel.drive; rw [hm]

theorem drive_blind (hm : c.mode = .blind) : c.drive cfg h zero missing = c.holdDuty cfg h zero missing := by
  unfold Channel.drive; rw [hm]

theorem drive_off (hr : c.mode ≠ .regulating) (hb : c.mode ≠ .blind) :
    c.drive cfg h zero missing = { c with uc := 0, duty := 0 } := by
  unfold Channel.drive
  cases hm : c.mode with
  | regulating => exact absurd hm hr
  | blind => exact absurd hm hb
  | _ => rfl

theorem countLimited_eq (cut : Bool) (c : Channel) : ∃ n, c.countLimited cut = { c with limited := n } := by
  unfold Channel.countLimited
  split
  · exact ⟨_, rfl⟩
  · exact ⟨c.limited, rfl⟩

theorem holdDuty_eq : ∃ n, c.holdDuty cfg h zero missing = { c with
    limited := n, uc := (c.holdDuty cfg h zero missing).uc, duty := (c.holdDuty cfg h zero missing).duty } := by
  obtain ⟨n, e⟩ := countLimited_eq (decide ((c.holdDuty cfg h zero missing).duty < (c.holdDuty cfg h zero missing).uc) ||
    (extractionCeiling cfg.fn zero == 0 && decide (0 < c.held))) c
  refine ⟨n, ?_⟩
  conv => lhs; unfold Channel.holdDuty
  exact congrArg (fun x : Channel => { x with
    uc := (c.holdDuty cfg h zero missing).uc, duty := (c.holdDuty cfg h zero missing).duty }) e

theorem regulate_eq : ∃ n i u d hs x y, c.regulate cfg h zero missing = { c with
    limited := n, iacc := i, uc := u, duty := d, history := hs, limUp := x, limDown := y } := by
  unfold Channel.regulate
  simp only []
  generalize (_ || _ : Bool) = cut
  obtain ⟨n, e⟩ := countLimited_eq cut c
  rw [e]
  exact ⟨_, _, _, _, _, _, _, rfl⟩

/-! ### A mode entered -/

theorem holdFor_eq (m : Mode) (c : Channel) : ∃ d f a, c.holdFor m = { c with det := d, heldFlag := f, armed := a } := by
  unfold Channel.holdFor
  split
  · split <;> exact ⟨_, _, _, rfl⟩
  · exact ⟨c.det, c.heldFlag, c.armed, rfl⟩

theorem outputFor_eq (m : Mode) (c : Channel) : ∃ i u d a f x y, c.outputFor m =
    { c with iacc := i, uc := u, duty := d, acc := a, firing := f, limUp := x, limDown := y } := by
  unfold Channel.outputFor
  split
  · exact ⟨_, _, _, _, _, c.limUp, c.limDown, rfl⟩
  · split
    · exact ⟨c.iacc, c.uc, c.duty, c.acc, c.firing, _, _, rfl⟩
    · exact ⟨c.iacc, c.uc, c.duty, c.acc, c.firing, c.limUp, c.limDown, rfl⟩

theorem enterMode_same (c : Channel) : c.enterMode c.mode = c := if_pos rfl

/-- A change of mode keeps the history, and takes the held duty from it and starts the blind timer at BLIND alone. -/
theorem enterMode_blindFor {m : Mode} (hm : m ≠ c.mode) : (c.enterMode m).mode = m ∧ (c.enterMode m).history = c.history ∧
    (c.enterMode m).held = (if m = .blind then c.history.sum / 64 else c.held) ∧
    (c.enterMode m).blind = if m = .blind then some 0 else none := by
  obtain ⟨_, _, _, e⟩ := holdFor_eq m c
  obtain ⟨_, _, _, _, _, _, _, e'⟩ := outputFor_eq m (c.holdFor m)
  unfold Channel.enterMode Channel.blindFor
  rw [if_neg hm, e', e]
  split <;> exact ⟨rfl, rfl, rfl, rfl⟩

theorem enterMode_mode (m : Mode) (c : Channel) : (c.enterMode m).mode = m := by
  by_cases hm : m = c.mode
  · subst hm; rw [enterMode_same]
  · exact (enterMode_blindFor hm).1

theorem enterMode_history (m : Mode) (c : Channel) : (c.enterMode m).history = c.history := by
  by_cases hm : m = c.mode
  · subst hm; rw [enterMode_same]
  · exact (enterMode_blindFor hm).2.1

end Sys2Proof.Machine
end

section
open Sys2Proof Sys2Proof.Machine

/-- Settles O37. -/
theorem regulationSample : Obligations.RegulationSample := by
  refine ⟨fun cfg c => ⟨rfl, rfl, proportional_bounds⟩, fun cfg h zero c hi => ?_, fun cfg h zero c => ?_,
    fun cfg h zero missing c => ⟨fun hm => ?_, fun hm => ?_, fun hr hb => ?_⟩, fun cfg c => ⟨rfl, fun hm => ?_, fun m hm hb => ?_,
    fun m => ?_⟩⟩
  · have cast := clampDuty_cast (c.rawOutput cfg (c.integrate cfg false))
    have guard : c.guardCeiling = if c.guarded then 500 else 1000 := rfl
    have ceiling := extractionCeiling_eq cfg.fn zero
    refine ⟨?_, fun he hl => ?_, fun he hl => ?_, fun hu hd => ?_, ?_, rfl, ?_, ?_, ?_, rfl⟩
    · exact integrate_le hi
    · exact integrate_held (.inr (.inl ⟨he, hl⟩))
    · exact integrate_held (.inr (.inr ⟨he, hl⟩))
    · exact integrate_moves hu hd
    · rw [regulate_uc, if_neg nofun, ← guard, ← ceiling]
      rw [natCast_min, cast]; rfl
    · rw [regulate_limUp, if_neg nofun, ← guard, ← ceiling]
      simp only [Bool.or_eq_true, decide_eq_true_eq, or_assoc]
      refine or_congr Iff.rfl (or_congr ?_ Iff.rfl)
      rw [← Int.ofNat_lt, cast]; rfl
    · rw [regulate_limDown, if_neg nofun, decide_eq_true_iff]; rfl
    · rw [regulate_limited, ← guard, ← ceiling]
      refine ite_of_iff (or_congr Iff.rfl (and_congr Iff.rfl ?_)) rfl rfl
      rw [← Int.ofNat_lt]
      rw [natCast_min, cast]; rfl
  · have cast := clampDuty_cast (c.proportional cfg + ((c.iacc / 256 : Nat) : Int))
    have iacc : c.integrate cfg true = c.iacc := integrate_held (.inl rfl)
    have guard : c.guardCeiling = if c.guarded then 500 else 1000 := rfl
    have duty : (c.regulate cfg h zero true).duty = 0 := Nat.zero_min _
    refine ⟨iacc, rfl, duty, rfl, rfl, by rw [regulate_history, duty], ?_⟩
    rw [regulate_limited, ← guard, Channel.rawOutput, iacc, extractionCeiling_eq]
    refine ite_of_iff ?_ rfl rfl
    have none : ¬ (c.regulate cfg h zero true).duty < (c.regulate cfg h zero true).uc := by rw [duty]; exact Nat.lt_irrefl 0
    rw [or_iff_right none, ← cast, ← and_assoc]
    refine and_congr (by simp) ?_
    rw [← Int.ofNat_lt]
    exact iff_of_eq (congrArg (0 < ·) (natCast_min ..))
  · exact drive_regulating hm
  · rw [drive_blind hm, ← extractionCeiling_eq]
    refine ⟨rfl, rfl, ?_, ?_⟩
    · refine (countLimited_limited _ c).trans (ite_of_iff ?_ rfl rfl)
      simp only [Bool.or_eq_true, Bool.and_eq_true, decide_eq_true_eq, beq_iff_eq]
      rfl
    · obtain ⟨n, e⟩ := holdDuty_eq (cfg := cfg) (c := c) (h := h) (zero := zero) (missing := missing)
      rw [e]
      exact ⟨rfl, rfl, rfl, rfl, rfl⟩
  · exact drive_off hr hb
  · obtain ⟨-, -, held, blind⟩ := enterMode_blindFor (m := .blind) (c := c) (Ne.symm hm)
    exact ⟨held, blind⟩
  · obtain ⟨-, -, held, blind⟩ := enterMode_blindFor (c := c) hm
    rw [if_neg hb] at held blind
    exact ⟨held, blind⟩
  · exact ⟨enterMode_mode m c, enterMode_history m c⟩

end

section
/-! A channel's sample on the state (R98 to R116): what it leaves of the rest, and what becomes of the channel. -/
namespace Sys2Proof.Machine

/-! ### What one channel's steps leave -/

/-- The state but for the channels and what `offAlarm` leaves out. -/
def offHeat (s : State) : State := { offAlarm s with heat := { s.heat with channels := [] } }

theorem offHeat_of_offAlarm {s t : State} (h : offAlarm t = offAlarm s) (hc : t.heat = s.heat) : offHeat t = offHeat s := by
  unfold offHeat; rw [h, hc]

/-- A step of channel k: the other channels, the codes not listed, and all but the channels and what reports write
stand. -/
structure ChannelStep (k : Nat) (cs : List Nat) (s t : State) : Prop where
  rest   : offHeat t = offHeat s
  others : ∀ m, m ≠ k → channel t m = channel s m
  codes  : ∀ d, d ∉ cs → t.alarm.at d = s.alarm.at d ∧ t.alarm.flag d = s.alarm.flag d
  places : t.alarm.place.length = s.alarm.place.length

namespace ChannelStep
variable {k : Nat} {cs cs' : List Nat} {s t u : State}

theorem refl (k : Nat) (cs : List Nat) (s : State) : ChannelStep k cs s s :=
  ⟨rfl, fun _ _ => rfl, fun _ _ => ⟨rfl, rfl⟩, rfl⟩

theorem trans (h : ChannelStep k cs s t) (h' : ChannelStep k cs' t u) : ChannelStep k (cs ++ cs') s u := by
  refine ⟨h'.rest.trans h.rest, fun m hm => (h'.others m hm).trans (h.others m hm), fun d hd => ?_, h'.places.trans h.places⟩
  rw [List.mem_append, not_or] at hd
  exact ⟨(h'.codes d hd.2).1.trans (h.codes d hd.1).1, (h'.codes d hd.2).2.trans (h.codes d hd.1).2⟩

theorem mono (h : ChannelStep k cs s t) (hc : ∀ d ∈ cs, d ∈ cs') : ChannelStep k cs' s t :=
  ⟨h.rest, h.others, fun d hd => h.codes d fun g => hd (hc d g), h.places⟩

theorem loader (h : ChannelStep k cs s t) : t.loader = s.loader := congrArg (·.loader) h.rest
theorem cfg (h : ChannelStep k cs s t) : t.cfg = s.cfg := by
  change (offHeat t).cfg = (offHeat s).cfg; rw [h.rest]
theorem allot (h : ChannelStep k cs s t) : t.allot = s.allot := congrArg (·.allot) h.rest
theorem fume (h : ChannelStep k cs s t) : t.fume = s.fume := congrArg (·.fume) h.rest
theorem mainsMissing (h : ChannelStep k cs s t) : t.heat.mainsMissing = s.heat.mainsMissing :=
  congrArg (·.heat.mainsMissing) h.rest
theorem governing (h : ChannelStep k cs s t) (m : Nat) : governingOf t m = governingOf s m := by
  change governingOf (offHeat t) m = governingOf (offHeat s) m; rw [h.rest]

/-- A code outside the list stands in a set as before. -/
theorem standing (h : ChannelStep k cs s t) {d : Nat} (hd : d ∉ cs) : t.alarm.standing d = s.alarm.standing d := by
  unfold AlarmUnit.standing; rw [(h.codes d hd).1]

/-- A step of the alarm unit at one code. -/
theorem of_code (k : Nat) {c : Nat} (he : offAlarm t = offAlarm s) (h : OtherCodesStand c s.alarm t.alarm) :
    ChannelStep k [c] s t := by
  have heat : t.heat = s.heat := congrArg (·.heat) he
  refine ⟨offHeat_of_offAlarm he heat, fun m _ => by rw [channel, channel, heat], fun d hd => ?_, h.places⟩
  rw [List.mem_singleton] at hd
  exact ⟨h.place d hd, h.flag d hd⟩

theorem modChannel (k : Nat) (f : Channel → Channel) (s : State) : ChannelStep k [] s (modChannel k f s) := by
  refine ⟨rfl, fun m hm => ?_, fun _ _ => ⟨rfl, rfl⟩, rfl⟩
  simp [channel, Machine.modChannel, hm.symm]

theorem appearance (k c : Nat) (s : State) : ChannelStep k [c] s (appearance c s) := by
  refine of_code k (offAlarm_appearance ..) ⟨fun d hd => ?_, fun d _ => ?_, ?_, ?_⟩ <;> rw [appearance_alarm]
  · exact AlarmUnit.at_appear_ne _ hd
  · exact AlarmUnit.flag_appear _
  · exact AlarmUnit.length_place_appear _
  · rw [AlarmUnit.flags_appear]

theorem settleLost (k : Nat) (s : State) : ChannelStep k [24 + k] s (settleLost k s) := by
  have ends : ChannelStep k [24 + k] s (Machine.recoveryEnds (24 + k) s) := of_code k rfl (.setFlag ..)
  exact (ends.trans (appearance k (24 + k) _)).mono (by simp)

theorem rederive (k : Nat) (s : State) : ChannelStep k [24 + k] s (rederive k s) := by
  unfold Machine.rederive
  split
  · exact refl ..
  · simp only []
    split
    · exact (modChannel ..).trans (settleLost ..)
    · exact (modChannel ..).mono nofun

theorem leaveInService (hk : k < 6) (s : State) : ChannelStep k [18 + k, 24 + k] s (leaveInService (18 + k) s) := by
  have ot : inLimits 18 (18 + k) 23 = true := inLimits_eq_true_iff.mpr (by omega)
  unfold Machine.leaveInService
  simp only [ot, if_true, Nat.add_sub_cancel_left]
  exact (of_code k (c := 18 + k) (offAlarm_clearCode ..) (others_clearCode ..)).trans ((modChannel ..).trans (rederive ..))

theorem reportRecovery (hk : k < 6) (v : Bool) (s : State) :
    ChannelStep k [18 + k, 24 + k] s (reportRecovery (18 + k) v s) := by
  have flagged (b : Bool) : ChannelStep k [18 + k] s { s with alarm := s.alarm.setFlag (18 + k) b } :=
    of_code k rfl (.setFlag ..)
  have own (b : Bool) : ChannelStep k [18 + k, 24 + k] s { s with alarm := s.alarm.setFlag (18 + k) b } :=
    (flagged b).mono (by simp)
  unfold Machine.reportRecovery
  split
  · exact refl ..
  · split
    · exact own false
    · simp only []
      split
      · split
        · have moved : ChannelStep k [18 + k] { s with alarm := s.alarm.setFlag (18 + k) true }
              { s with alarm := (s.alarm.setFlag (18 + k) true).move (18 + k) .idle } := of_code k rfl (.move ..)
          exact ((flagged true).trans moved).mono (by simp)
        · exact own true
      · exact ((flagged true).trans (leaveInService hk _)).mono (by simp)
      all_goals exact own true

theorem sampleStep (tc : List Reading) (k : Nat) (c : Channel) (s : State) : ChannelStep k [k] s (sampleStep tc k c s) := by
  unfold Machine.sampleStep
  simp only []
  split
  · exact (modChannel ..).trans (appearance k k _)
  · exact (modChannel ..).mono nofun

theorem tripStep (k : Nat) (s : State) : ChannelStep k [18 + k] s (tripStep k s) := by
  unfold Machine.tripStep
  split
  · exact refl ..
  · split
    · exact (modChannel ..).trans (appearance k (18 + k) _)
    · exact refl ..

theorem coolStep (hk : k < 6) (s : State) : ChannelStep k [18 + k, 24 + k] s (coolStep k s) := by
  unfold Machine.coolStep
  split
  · exact refl ..
  · split
    · exact (modChannel ..).trans (reportRecovery hk _ _)
    · exact refl ..

theorem settleStep (k : Nat) (s : State) : ChannelStep k [24 + k] s (settleStep k s) := by
  unfold Machine.settleStep
  split
  · exact refl ..
  · simp only []
    split
    · exact (modChannel ..).trans (settleLost ..)
    · exact (modChannel ..).mono nofun

end ChannelStep

/-! ### What becomes of the channel -/

/-- A good sample at the limit trips the channel (R103). -/
def Channel.tripped (limit : Int) (c : Channel) : Channel :=
  if c.lastGood ∧ limit ≤ c.measured ∧ ¬c.trip then { c with trip := true } else c

/-- A good sample's record of a cool one, with OVERTEMP in service (R103). -/
def Channel.cooled (limit : Int) (inService : Bool) (c : Channel) : Bool :=
  if limit - 50 ≤ c.measured then false else c.cool || inService

/-- A good sample judged for the end of a trip, which is released with OVERTEMP in service and not cool yet (R103). -/
def Channel.judgeCool (limit : Int) (inService flag : Bool) (c : Channel) : Channel :=
  if c.lastGood then
    { c with cool := c.cooled limit inService, trip := c.trip && !(c.cooled limit inService && inService && !flag) }
  else c

/-- A mode derived twice is derived once. -/
theorem modeOf_enterMode (st : StationState) (fn : ChFunction) (m : Mode) (c : Channel) :
    modeOf st fn (c.enterMode m) = modeOf st fn c := by
  obtain ⟨_, _, _, e⟩ := holdFor_eq m c
  obtain ⟨_, _, _, _, _, _, _, e'⟩ := outputFor_eq m (c.holdFor m)
  unfold Channel.enterMode Channel.blindFor
  rw [e', e]
  split
  · rfl
  · split <;> rfl

theorem enterMode_enterMode (m : Mode) (c : Channel) : (c.enterMode m).enterMode m = c.enterMode m :=
  if_pos (enterMode_mode m c).symm

section
variable {k : Nat} {s : State} {c : Channel} (h : channel s k = some c)
include h

theorem channel_modify (f : Channel → Channel) : channel (modChannel k f s) k = some (f c) := by
  rw [channel_modChannel, h]; rfl

theorem channel_rederive : channel (rederive k s) k =
    some (c.enterMode (modeOf s.loader.station (s.cfg.channel k).fn c)) := by
  unfold rederive
  rw [show s.heat.channels[k]? = some c from h]
  simp only []
  split <;> exact channel_modify h _

theorem channel_sampleStep (tc : List Reading) : channel (sampleStep tc k c s) k =
    some (c.sample (s.cfg.channel k) (tc.getD (c.sensor (s.cfg.channel k)) .openCircuit)).1 := by
  unfold sampleStep
  simp only []
  split <;> exact channel_modify h _

theorem channel_tripStep : channel (tripStep k s) k = some (c.tripped (s.cfg.channel k).limit) := by
  unfold tripStep Channel.tripped
  rw [h]
  simp only []
  split
  · exact channel_modify h _
  · exact h

theorem channel_settleStep : channel (settleStep k s) k = some (c.settle s.cfg.heatDet).countUnsettled := by
  unfold settleStep
  rw [h]
  simp only []
  split <;> exact channel_modify h _

/-- OVERTEMP that leaves service releases the trip, and the mode follows (R103). -/
theorem channel_leaveInService (hk : k < 6) : channel (leaveInService (18 + k) s) k =
    some (({ c with trip := false } : Channel).enterMode
      (modeOf s.loader.station (s.cfg.channel k).fn { c with trip := false })) := by
  have ot : inLimits 18 (18 + k) 23 = true := inLimits_eq_true_iff.mpr (by omega)
  have cleared := offAlarm_clearCode (18 + k) false s
  have held : channel (clearCode (18 + k) false s) k = some c := by
    rw [channel, show (clearCode (18 + k) false s).heat = s.heat from congrArg (·.heat) cleared]; exact h
  have loader : (clearCode (18 + k) false s).loader = s.loader := congrArg (·.loader) cleared
  unfold leaveInService
  simp only [ot, if_true, Nat.add_sub_cancel_left]
  rw [channel_rederive (channel_modify held _)]
  simp only [State.cfg, (ChannelStep.modChannel ..).loader, loader]

theorem channel_reportRecovery (hk : k < 6) (v : Bool) : channel (reportRecovery (18 + k) v s) k =
    some (if v = true ∧ s.alarm.flag (18 + k) = false ∧ s.alarm.at (18 + k) = .inService then
      ({ c with trip := false } : Channel).enterMode
        (modeOf s.loader.station (s.cfg.channel k).fn { c with trip := false }) else c) := by
  unfold reportRecovery
  by_cases same : v = s.alarm.flag (18 + k)
  · rw [if_pos same, h, if_neg]
    rintro ⟨hv, hf, -⟩
    rw [hv, hf] at same
    exact absurd same nofun
  · rw [if_neg same]
    cases v with
    | false => exact h.trans (congrArg some (if_neg (by simp)).symm)
    | true =>
      have flag : s.alarm.flag (18 + k) = false := by simpa using Ne.symm same
      simp only [Bool.not_true, Bool.false_eq_true, if_false, flag, true_and]
      cases hp : s.alarm.at (18 + k) with
      | inService =>
        simp only [if_true]
        exact channel_leaveInService (s := { s with alarm := s.alarm.setFlag (18 + k) true }) h hk
      | request =>
        simp only [reduceCtorEq, if_false]
        split <;> exact h
      | idle => exact h
      | pending g => exact h

/-- The cool sample judged and the mode derived (R102, R103). -/
theorem channel_coolStep (hk : k < 6) : channel (rederive k (coolStep k s)) k =
    some ((c.judgeCool (s.cfg.channel k).limit (s.alarm.at (18 + k) == .inService) (s.alarm.flag (18 + k))).enterMode
      (modeOf s.loader.station (s.cfg.channel k).fn
        (c.judgeCool (s.cfg.channel k).limit (s.alarm.at (18 + k) == .inService) (s.alarm.flag (18 + k))))) := by
  have step := ChannelStep.coolStep hk s
  suffices cooled : ∃ x, channel (coolStep k s) k = some x ∧
      x.enterMode (modeOf s.loader.station (s.cfg.channel k).fn x) =
        (c.judgeCool (s.cfg.channel k).limit (s.alarm.at (18 + k) == .inService) (s.alarm.flag (18 + k))).enterMode
          (modeOf s.loader.station (s.cfg.channel k).fn
            (c.judgeCool (s.cfg.channel k).limit (s.alarm.at (18 + k) == .inService) (s.alarm.flag (18 + k)))) by
    obtain ⟨x, hx, e⟩ := cooled
    rw [channel_rederive hx, step.loader, step.cfg, e]
  unfold coolStep
  rw [h]
  simp only []
  by_cases good : c.lastGood = true
  · rw [if_pos good]
    refine ⟨_, channel_reportRecovery (channel_modify h _) hk _, ?_⟩
    simp only [Channel.judgeCool, if_pos good]
    by_cases released : c.cooled (s.cfg.channel k).limit (s.alarm.at (18 + k) == .inService) = true ∧
        s.alarm.flag (18 + k) = false ∧ s.alarm.at (18 + k) = .inService
    · refine Eq.trans (congr (congrArg Channel.enterMode (congrArg _ (if_pos released))) (if_pos released)) ?_
      rw [modeOf_enterMode]
      refine (enterMode_enterMode _ _).trans ?_
      have freed : (c.cooled (s.cfg.channel k).limit (s.alarm.at (18 + k) == .inService) &&
          (s.alarm.at (18 + k) == .inService) && !s.alarm.flag (18 + k)) = true := by
        simp only [Bool.and_eq_true, beq_iff_eq, Bool.not_eq_true']
        exact ⟨⟨released.1, released.2.2⟩, released.2.1⟩
      rw [freed, Bool.not_true, Bool.and_false]
      rfl
    · refine Eq.trans (congr (congrArg Channel.enterMode (congrArg _ (if_neg released))) (if_neg released)) ?_
      have kept : (c.cooled (s.cfg.channel k).limit (s.alarm.at (18 + k) == .inService) &&
          (s.alarm.at (18 + k) == .inService) && !s.alarm.flag (18 + k)) = false := by
        rw [Bool.eq_false_iff]
        intro g
        simp only [Bool.and_eq_true, beq_iff_eq, Bool.not_eq_true'] at g
        exact released ⟨g.1.1, g.2, g.1.2⟩
      rw [kept, Bool.not_false, Bool.and_true]
      rfl
  · rw [if_neg good]
    exact ⟨c, h, by simp only [Channel.judgeCool, if_neg good]⟩

end

/-! ### The whole sample -/

/-- A channel's sample judged: the sensor, the trip, and the end of a trip (R98 to R103). -/
def Channel.judged (cfg : ChannelCfg) (tc : List Reading) (inService flag : Bool) (c : Channel) : Channel :=
  ((c.sample cfg (tc.getD (c.sensor cfg) .openCircuit)).1.tripped cfg.limit).judgeCool cfg.limit inService flag

/-- A channel's sample judged in a state, and the mode it brings (R102). -/
def Channel.modeSampled (tc : List Reading) (k : Nat) (s : State) (c : Channel) : Channel :=
  let j := c.judged (s.cfg.channel k) tc (s.alarm.at (18 + k) == .inService) (s.alarm.flag (18 + k))
  j.enterMode (modeOf s.loader.station (s.cfg.channel k).fn j)

/-- A channel after its sample but for its output: the setpoint and the detector taken (R104 to R112). -/
def Channel.settledSample (tc : List Reading) (k : Nat) (s : State) (c : Channel) : Channel :=
  (((c.modeSampled tc k s).govern (s.cfg.channel k) s.cfg.guardStep (governingOf s k)).settle s.cfg.heatDet).countUnsettled

/-- A channel after its whole sample (R98 to R116). -/
def Channel.sampled (tc : List Reading) (k : Nat) (s : State) (c : Channel) : Channel :=
  (c.settledSample tc k s).drive (s.cfg.channel k) (s.allot.caps.getD k 0) s.fume.graceZero s.heat.mainsMissing

/-- The state of a sample once the mode is derived. -/
def modeStep (tc : List Reading) (k : Nat) (c : Channel) (s : State) : State :=
  rederive k (coolStep k (tripStep k (sampleStep tc k c s)))

/-- The rest of a sample once the mode is derived. -/
def finishSample (img : Image) (k : Nat) (s : State) : State :=
  let s' := settleStep k (modChannel k (Channel.govern (img.channel k) img.guardStep (governingOf s k)) s)
  modChannel k (Channel.drive (img.channel k) (s'.allot.caps.getD k 0) s'.fume.graceZero s'.heat.mainsMissing) s'

/-- The state of a sample once the setpoint is taken. -/
def governStep (tc : List Reading) (k : Nat) (c : Channel) (s : State) : State :=
  modChannel k (Channel.govern (s.cfg.channel k) s.cfg.guardStep (governingOf s k)) (modeStep tc k c s)

theorem appear_inService (img : Image) (a : AlarmUnit) (c : Nat) :
    ((a.appear img c).at c == .inService) = (a.at c == .inService) := by
  unfold AlarmUnit.appear
  split
  · rename_i idle
    split
    · rfl
    · rcases a.at_move_cases c c .request with e | ⟨-, e⟩ <;> rw [e]
      rw [idle]; rfl
  · rfl

theorem tripStep_overtemp (k : Nat) (s : State) : ((tripStep k s).alarm.at (18 + k) == .inService) =
    (s.alarm.at (18 + k) == .inService) ∧ (tripStep k s).alarm.flag (18 + k) = s.alarm.flag (18 + k) := by
  unfold tripStep
  split
  · exact ⟨rfl, rfl⟩
  · split
    · rw [appearance_alarm]
      exact ⟨appear_inService .., AlarmUnit.flag_appear ..⟩
    · exact ⟨rfl, rfl⟩

section
variable {k : Nat} {s : State} {c : Channel} (hk : k < 6)
include hk

theorem ChannelStep.modeStep (tc : List Reading) (c : Channel) (s : State) :
    ChannelStep k [k, 18 + k, 24 + k] s (modeStep tc k c s) :=
  ((ChannelStep.sampleStep ..).trans ((ChannelStep.tripStep ..).trans ((ChannelStep.coolStep hk _).trans
    (ChannelStep.rederive ..)))).mono (by simp)

theorem ChannelStep.governStep (tc : List Reading) (c : Channel) (s : State) :
    ChannelStep k [k, 18 + k, 24 + k] s (governStep tc k c s) :=
  ((ChannelStep.modeStep hk tc c s).trans (ChannelStep.modChannel ..)).mono (by simp)

variable (h : channel s k = some c)
include h

theorem channelSample_eq (tc : List Reading) : channelSample tc k s =
    modChannel k (Channel.drive (s.cfg.channel k) (s.allot.caps.getD k 0) s.fume.graceZero s.heat.mainsMissing)
      (settleStep k (governStep tc k c s)) := by
  have mode := ChannelStep.modeStep hk tc c s
  have settle := (ChannelStep.governStep hk tc c s).trans (ChannelStep.settleStep k _)
  have unfolded : channelSample tc k s = finishSample s.cfg k (modeStep tc k c s) := by
    unfold channelSample
    rw [h]
    rfl
  rw [unfolded, finishSample, mode.governing]
  unfold governStep at settle ⊢
  rw [settle.allot, settle.fume, settle.mainsMissing]

theorem ChannelStep.channelSample (tc : List Reading) :
    ChannelStep k [k, 18 + k, 24 + k] s (channelSample tc k s) := by
  rw [channelSample_eq hk h]
  exact (((ChannelStep.governStep hk tc c s).trans (ChannelStep.settleStep ..)).trans (ChannelStep.modChannel ..)).mono
    (by simp)

theorem channel_modeStep (tc : List Reading) : channel (modeStep tc k c s) k = some (c.modeSampled tc k s) := by
  have sample := ChannelStep.sampleStep tc k c s
  have trip := sample.trans (ChannelStep.tripStep k _)
  obtain ⟨at_, flag⟩ := tripStep_overtemp k (sampleStep tc k c s)
  obtain ⟨at', flag'⟩ := sample.codes (18 + k) (by simp)
  have tripped := channel_tripStep (channel_sampleStep h tc)
  rw [sample.cfg] at tripped
  unfold modeStep
  rw [channel_coolStep tripped hk, at_, flag, at', flag', trip.cfg, trip.loader]
  rfl

theorem channel_governStep (tc : List Reading) : channel (governStep tc k c s) k =
    some ((c.modeSampled tc k s).govern (s.cfg.channel k) s.cfg.guardStep (governingOf s k)) :=
  channel_modify (channel_modeStep hk h tc) _

theorem channel_channelSample (tc : List Reading) : channel (channelSample tc k s) k = some (c.sampled tc k s) := by
  have settled := channel_settleStep (channel_governStep hk h tc)
  rw [(ChannelStep.governStep hk tc c s).cfg] at settled
  rw [channelSample_eq hk h]
  exact channel_modify settled _

end

/-! ### The samples of several channels -/

/-- The samples of other channels: the channel, its codes and all but the channels and the alarm side stand. -/
theorem samplesOf_others {k : Nat} (hk : k < 6) (tc : List Reading) : ∀ (ks : List Nat) (s : State), k ∉ ks → (∀ j ∈ ks, j < 6) →
    offHeat (samplesOf tc ks s) = offHeat s ∧ channel (samplesOf tc ks s) k = channel s k ∧
    (∀ d, d = k ∨ d = 18 + k ∨ d = 24 + k → (samplesOf tc ks s).alarm.at d = s.alarm.at d ∧
      (samplesOf tc ks s).alarm.flag d = s.alarm.flag d) ∧
    (samplesOf tc ks s).alarm.place.length = s.alarm.place.length
  | [], s, _, _ => ⟨rfl, rfl, fun _ _ => ⟨rfl, rfl⟩, rfl⟩
  | j :: ks, s, hn, hj => by
    obtain ⟨ne, hn⟩ := not_or.mp (mt List.mem_cons.mpr hn)
    have hj6 := hj j (List.mem_cons_self ..)
    have step : ChannelStep j [j, 18 + j, 24 + j] s (channelSample tc j s) := by
      cases h : channel s j with
      | none => rw [channelSample, h]; exact .refl ..
      | some c => exact .channelSample hj6 h tc
    obtain ⟨rest, chan, codes, places⟩ := samplesOf_others hk tc ks (channelSample tc j s) hn
      fun i hi => hj i (List.mem_cons_of_mem _ hi)
    refine ⟨rest.trans step.rest, chan.trans (step.others k ne), fun d hd => ?_, places.trans step.places⟩
    have away : d ∉ [j, 18 + j, 24 + j] := by
      simp only [List.mem_cons, List.not_mem_nil, or_false, not_or]
      omega
    exact ⟨(codes d hd).1.trans (step.codes d away).1, (codes d hd).2.trans (step.codes d away).2⟩

end Sys2Proof.Machine
end

section
/-! HEAT_SAMPLE over the channels, and the timers of a channel (R101, R105, R115, R116). -/
namespace Sys2Proof.Machine

/-! ### One channel among the others -/

theorem samplesOf_append (tc : List Reading) : ∀ (a b : List Nat) (s : State),
    samplesOf tc (a ++ b) s = samplesOf tc b (samplesOf tc a s)
  | [], _, _ => rfl
  | k :: a, b, s => samplesOf_append tc a b (channelSample tc k s)

theorem samplesOf_none {k : Nat} (tc : List Reading) : ∀ (ks : List Nat) (s : State), (∀ j ∈ ks, j < 6) →
    channel s k = none → channel (samplesOf tc ks s) k = none
  | [], _, _, h => h
  | j :: ks, s, hj, h => by
    refine samplesOf_none tc ks (channelSample tc j s) (fun i hi => hj i (List.mem_cons_of_mem _ hi)) ?_
    cases hc : channel s j with
    | none => rw [channelSample, hc]; exact h
    | some c =>
      have ne : k ≠ j := by rintro rfl; rw [h] at hc; exact absurd hc nofun
      rw [(ChannelStep.channelSample (hj j (List.mem_cons_self ..)) hc tc).others k ne]; exact h

/-- Where a channel's sample stands among those of the others: the state before it has the channel, its codes and all
but the alarm side and the channels as they were, and the samples after it leave the channel and its codes alone. -/
structure SampledBetween (tc : List Reading) (k : Nat) (c : Channel) (s v u : State) : Prop where
  before : channel v k = some c
  rest   : offHeat v = offHeat s
  codes  : ∀ d, d = k ∨ d = 18 + k ∨ d = 24 + k → v.alarm.at d = s.alarm.at d ∧ v.alarm.flag d = s.alarm.flag d
  places : v.alarm.place.length = s.alarm.place.length
  after  : channel u k = channel (channelSample tc k v) k
  codes' : ∀ d, d = k ∨ d = 18 + k ∨ d = 24 + k → u.alarm.at d = (channelSample tc k v).alarm.at d

theorem samplesOf_between {k : Nat} {c : Channel} {s : State} (tc : List Reading) {ks : List Nat} (hj : ∀ j ∈ ks, j < 6)
    (hn : ks.Nodup) (hk : k ∈ ks) (h : channel s k = some c) : ∃ v, SampledBetween tc k c s v (samplesOf tc ks s) := by
  obtain ⟨a, b, rfl⟩ := List.append_of_mem hk
  have hk6 := hj k hk
  obtain ⟨-, hkb, apart⟩ := List.nodup_append.mp hn
  obtain ⟨rest, chan, codes, places⟩ := samplesOf_others hk6 tc a s
    (fun g => apart k g k (List.mem_cons_self ..) rfl) fun j hja => hj j (List.mem_append_left _ hja)
  obtain ⟨-, chan', codes', -⟩ := samplesOf_others hk6 tc b (channelSample tc k (samplesOf tc a s))
    (List.nodup_cons.mp hkb).1 fun j hjb => hj j (List.mem_append_right _ (List.mem_cons_of_mem _ hjb))
  refine ⟨samplesOf tc a s, chan.trans h, rest, codes, places, ?_, fun d hd => ?_⟩ <;> rw [samplesOf_append]
  · exact chan'
  · exact (codes' d hd).1

theorem nodup_usedChannels (img : Image) : img.usedChannels.Nodup := List.Pairwise.filter _ List.nodup_range

/-- A channel's sample depends on its record, its OVERTEMP and what no sample changes. -/
theorem sampled_congr {tc : List Reading} {k : Nat} {s v : State} (rest : offHeat v = offHeat s)
    (at_ : v.alarm.at (18 + k) = s.alarm.at (18 + k)) (flag : v.alarm.flag (18 + k) = s.alarm.flag (18 + k)) (c : Channel) :
    c.settledSample tc k v = c.settledSample tc k s ∧ c.sampled tc k v = c.sampled tc k s := by
  have cfg : v.cfg = s.cfg := by change (offHeat v).cfg = (offHeat s).cfg; rw [rest]
  have loader : v.loader = s.loader := congrArg (·.loader) rest
  have governing : governingOf v k = governingOf s k := by
    change governingOf (offHeat v) k = governingOf (offHeat s) k; rw [rest]
  have allot : v.allot = s.allot := congrArg (·.allot) rest
  have fume : v.fume = s.fume := congrArg (·.fume) rest
  have mains : v.heat.mainsMissing = s.heat.mainsMissing := congrArg (·.heat.mainsMissing) rest
  have settled : c.settledSample tc k v = c.settledSample tc k s := by
    simp only [Channel.settledSample, Channel.modeSampled, cfg, loader, governing, at_, flag]
  exact ⟨settled, by simp only [Channel.sampled, settled, cfg, allot, fume, mains]⟩

/-! ### The command -/

theorem exec_heatSample {tc : List Reading} {s : State} (h : heatActs s = true) : exec (.heatSample tc) s =
    .next (finish (heatSampleAll tc { s with pins := { s.pins with tc := tc } })) := by
  simp only [exec, execHeatSample, h, if_true]

/-- The state in which the samples of a HEAT_SAMPLE begin. -/
def sampleBegins (tc : List Reading) (s : State) : State :=
  { s with pins := { s.pins with tc := tc }, heat := { s.heat with sampleAge := some 0 } }

theorem heatSampleAll_between {tc : List Reading} {k : Nat} {s : State} {c : Channel} (hk : k < 6)
    (hf : (s.cfg.channel k).fn ≠ .unused) (h : channel s k = some c) :
    ∃ v, SampledBetween tc k c (sampleBegins tc s) v (heatSampleAll tc { s with pins := { s.pins with tc := tc } }) :=
  samplesOf_between (s := sampleBegins tc s) tc (fun _ hj => (mem_usedChannels.mp hj).1) (nodup_usedChannels _)
    (mem_usedChannels.mpr ⟨hk, hf⟩) h

theorem channel_heatSampleAll {tc : List Reading} {k : Nat} {s : State} {c : Channel} (hk : k < 6)
    (hf : (s.cfg.channel k).fn ≠ .unused) (h : channel s k = some c) :
    channel (heatSampleAll tc { s with pins := { s.pins with tc := tc } }) k = some (c.sampled tc k s) := by
  obtain ⟨v, b⟩ := heatSampleAll_between (tc := tc) hk hf h
  obtain ⟨at_, flag⟩ := b.codes (18 + k) (.inr (.inl rfl))
  rw [b.after, channel_channelSample hk b.before, (sampled_congr b.rest at_ flag c).2]
  rfl

theorem heatActs_of {s : State} (ha : s.active = true) (hf : s.cfg.functions.heat = true ∨ s.cfg.functions.pot = true) :
    heatActs s = true := by simp [heatActs, Image.hasHeaters, ha, hf]

/-! ### The applied duty -/

theorem drive_rest (cfg : ChannelCfg) (h : Nat) (zero missing : Bool) (c : Channel) :
    (c.drive cfg h zero missing).mode = c.mode ∧ (c.drive cfg h zero missing).held = c.held := by
  by_cases hr : c.mode = .regulating
  · obtain ⟨_, _, _, _, _, _, _, e⟩ := regulate_eq (cfg := cfg) (c := c) (h := h) (zero := zero) (missing := missing)
    rw [drive_regulating hr, e]; exact ⟨rfl, rfl⟩
  · by_cases hb : c.mode = .blind
    · obtain ⟨_, e⟩ := holdDuty_eq (cfg := cfg) (c := c) (h := h) (zero := zero) (missing := missing)
      rw [drive_blind hb, e]; exact ⟨rfl, rfl⟩
    · rw [drive_off hr hb]; exact ⟨rfl, rfl⟩

/-- What the output of a sample keeps within: the guarded output, the cap, the held duty, and 0 where nothing drives. -/
theorem drive_bounds (cfg : ChannelCfg) (h : Nat) (zero missing : Bool) (c : Channel) :
    let d := c.drive cfg h zero missing
    d.duty ≤ d.uc ∧ d.uc ≤ max 1000 c.held ∧
    ((c.mode = .regulating ∨ c.mode = .blind) → d.duty ≤ h * 1000 / cfg.rated) ∧ (c.mode = .blind → d.duty ≤ c.held) ∧
    ((c.mode ≠ .regulating ∧ c.mode ≠ .blind) ∨ missing = true → d.duty = 0) := by
  by_cases hr : c.mode = .regulating
  · rw [drive_regulating hr]
    have uc : (c.regulate cfg h zero missing).uc ≤ 1000 ∧ (missing = true → (c.regulate cfg h zero missing).uc = 0) := by
      rw [regulate_uc]
      split
      · exact ⟨Nat.zero_le _, fun _ => rfl⟩
      · exact ⟨Nat.le_trans (Nat.min_le_left ..) (clampDuty_le _), fun g => absurd g ‹_›⟩
    have duty := regulate_duty (cfg := cfg) (c := c) (h := h) (zero := zero) (missing := missing)
    refine ⟨by rw [duty]; exact Nat.min_le_left .., Nat.le_trans uc.1 (Nat.le_max_left ..),
      fun _ => by rw [duty]; exact Nat.min_le_right .., fun hb => absurd (hr.symm.trans hb) nofun, fun hz => ?_⟩
    rcases hz with hz | hz
    · exact absurd hr hz.1
    · rw [duty, uc.2 hz]; exact Nat.zero_min _
  · by_cases hb : c.mode = .blind
    · rw [drive_blind hb]
      have uc : (c.holdDuty cfg h zero missing).uc =
        if missing then 0 else min c.held (min c.guardCeiling (extractionCeiling cfg.fn zero)) := rfl
      have duty : (c.holdDuty cfg h zero missing).duty = min (c.holdDuty cfg h zero missing).uc (capDuty cfg h) := rfl
      have held : (c.holdDuty cfg h zero missing).uc ≤ c.held := by
        rw [uc]
        split
        · exact Nat.zero_le _
        · exact Nat.min_le_left ..
      refine ⟨by rw [duty]; exact Nat.min_le_left .., Nat.le_trans held (Nat.le_max_right ..),
        fun _ => by rw [duty]; exact Nat.min_le_right .., fun _ => (by rw [duty]; exact Nat.le_trans (Nat.min_le_left ..) held),
        fun hz => ?_⟩
      rcases hz with hz | hz
      · exact absurd hb hz.2
      · rw [duty, uc, if_pos hz]; exact Nat.zero_min _
    · rw [drive_off hr hb]
      exact ⟨Nat.le_refl 0, Nat.zero_le _, fun _ => Nat.zero_le _, fun _ => Nat.zero_le _, fun _ => rfl⟩

/-! ### FAULTED (R102, R121) -/

theorem enterMode_faulted {c : Channel} (h : c.mode = .blind) : (c.enterMode .faulted).duty = 0 ∧
    (c.enterMode .faulted).acc = 0 ∧ (c.enterMode .faulted).iacc = 0 ∧ (c.enterMode .faulted).firing = false ∧
    (c.enterMode .faulted).blind = none ∧ (c.enterMode .faulted).fault = c.fault := by
  obtain ⟨_, _, _, e⟩ := holdFor_eq .faulted c
  unfold Channel.enterMode
  rw [if_neg (by rw [h]; nofun), e]
  exact ⟨rfl, rfl, rfl, rfl, rfl, rfl⟩

/-- A blind channel's timer at its limit: the channel is FAULTED. -/
def blindFaulted (k : Nat) (s : State) : State :=
  rederive k (appearance (12 + k) (modChannel k (fun c => { c with fault := true }) s))

theorem blindExpired_blind {k : Nat} {s : State} {c : Channel} (h : channel s k = some c) (hm : c.mode = .blind) :
    blindExpired k s = blindFaulted k s := by
  unfold blindExpired
  rw [h]
  exact if_pos hm

theorem channel_blindFaulted {k : Nat} {s : State} {c : Channel} (h : channel s k = some c)
    (hr : s.loader.station = .running) (hf : (s.cfg.channel k).fn ≠ .unused) :
    channel (blindFaulted k s) k = some (({ c with fault := true } : Channel).enterMode .faulted) := by
  have mode : modeOf s.loader.station (s.cfg.channel k).fn { c with fault := true } = .faulted := by
    unfold modeOf
    rw [if_neg (by simp [hf, hr])]; rfl
  unfold blindFaulted
  rw [channel_rederive (s := appearance (12 + k) (modChannel k (fun c => { c with fault := true }) s))
    (c := { c with fault := true }) (channel_modify h _)]
  exact congrArg (fun m => some (({ c with fault := true } : Channel).enterMode m)) mode

theorem blindFaulted_step (k : Nat) (s : State) : ChannelStep k [12 + k, 24 + k] s (blindFaulted k s) :=
  (ChannelStep.modChannel ..).trans ((ChannelStep.appearance ..).trans (ChannelStep.rederive ..))

theorem standing_blindFaulted {k : Nat} {s : State} (hk : k < 6) (hp : s.alarm.place.length = 64) :
    (blindFaulted k s).alarm.standing (12 + k) = true := by
  unfold blindFaulted
  rw [(ChannelStep.rederive ..).standing (by simp), appearance_alarm]
  refine AlarmUnit.standing_appear ?_ (.inr (.inl ?_))
  · change 12 + k < s.alarm.place.length
    omega
  · unfold alarmRecovery
    rw [if_pos (inLimits_eq_true_iff.mpr (by omega))]
    nofun

end Sys2Proof.Machine
end

section
open Sys2Proof Sys2Proof.Machine

/-- Settles O36. -/
theorem appliedDutyIsBounded : Obligations.AppliedDutyIsBounded := by
  intro tc s ha hf
  refine ⟨_, exec_heatSample (heatActs_of ha hf), fun k d hk hfn hd => ?_⟩
  rw [finish_channel] at hd
  cases hc : channel s k with
  | none =>
    rw [heatSampleAll, samplesOf_none] at hd
    · exact absurd hd nofun
    · exact fun j hj => (mem_usedChannels.mp hj).1
    · exact hc
  | some c =>
    rw [channel_heatSampleAll hk hfn hc] at hd
    obtain rfl := Option.some.inj hd
    obtain ⟨mode, held⟩ := drive_rest (s.cfg.channel k) (s.allot.caps.getD k 0) s.fume.graceZero s.heat.mainsMissing
      (c.settledSample tc k s)
    have bounds := drive_bounds (s.cfg.channel k) (s.allot.caps.getD k 0) s.fume.graceZero s.heat.mainsMissing
      (c.settledSample tc k s)
    unfold Channel.sampled
    rw [mode, held]
    exact bounds

/-- Settles O39. -/
theorem channelTimersEnd : Obligations.ChannelTimersEnd := by
  refine ⟨fun k s c n ha hc hi => ⟨modChannel k Channel.idleExpired s, { c with idle := .done }, ?_, ?_, rfl, fun cfg => rfl,
    (ChannelStep.modChannel k _ s).others, rfl⟩, fun k s c ha hr hf hc hm => ?_⟩
  · simp only [exec, execIdleTimerExpiry, ha, if_true]
  · rw [channel_modify hc]
    unfold Channel.idleExpired
    rw [hi]
  · have exec_ : exec (.blindTimerExpiry k) s = .next (finish (blindFaulted k s)) := by
      simp only [exec, execBlindTimerExpiry, ha, if_true, blindExpired_blind hc hm]
    have faulted := channel_blindFaulted hc hr hf
    obtain ⟨duty, acc, iacc, firing, blind, fault⟩ := enterMode_faulted (c := { c with fault := true }) hm
    refine ⟨_, _, exec_, by rw [finish_channel]; exact faulted, enterMode_mode .., fault, duty, acc, iacc, blind, ?_,
      fun m hm => by rw [finish_channel, (blindFaulted_step k s).others m hm], fun hk hp => ?_⟩
    · rw [heaterOn, finish_channel, faulted]; exact firing
    · have codes : ∀ k < 6, alarmLive (12 + k) = false ∧ levelOf (12 + k) ≠ 0 ∧ alarmRecovery (12 + k) ≠ .condition := by
        decide
      obtain ⟨live, level, recovery⟩ := codes k hk
      refine standing_finish live level (fun v hv => ?_) (standing_blindFaulted hk hp)
      rw [dueFlag, if_neg (by simp [live]), if_neg (fun g => recovery g.1)] at hv
      exact absurd hv nofun

end

section
/-! What a sample does to a channel's record, field by field (R98 to R112). -/
namespace Sys2Proof.Machine

variable {cfg : ChannelCfg} {c : Channel} {m : Mode}

/-! ### What the later steps leave -/

/-- A channel but for what its setpoint, its detector and its output write. -/
def Channel.atMode (c : Channel) : Channel :=
  { c with governing := none, setpoint := 0, idle := .off, guarded := false, det := Detector.cold, heldFlag := false
           armed := false, unsettled := 0, limited := 0, iacc := 0, limUp := false, limDown := false, uc := 0, duty := 0
           history := [] }

/-- A channel but for what its mode writes besides. -/
def Channel.sensed (c : Channel) : Channel :=
  { c.atMode with mode := .idle, held := 0, blind := none, acc := 0, firing := false }

theorem setTo_eq (gs v : Nat) (c : Channel) : c.setTo gs v = { c with
    setpoint := v
    det := if v = c.setpoint then c.det else Detector.cold
    heldFlag := if v = c.setpoint then c.heldFlag else false
    armed := if v = c.setpoint then c.armed else true
    guarded := c.guarded || decide (c.setpoint + gs < v) } := by
  unfold Channel.setTo
  by_cases h : v = c.setpoint
  · subst h
    have unmoved : decide (c.setpoint + gs < c.setpoint) = false := decide_eq_false (Nat.not_lt.mpr (Nat.le_add_right ..))
    simp only [if_true, unmoved, Bool.or_false]
  · simp only [if_neg h]

theorem atMode_govern (gs : Nat) (g : Option (Tag × Nat)) (c : Channel) : (c.govern cfg gs g).atMode = c.atMode := by
  unfold Channel.govern
  rw [setTo_eq]
  rfl

theorem history_govern (gs : Nat) (g : Option (Tag × Nat)) (c : Channel) : (c.govern cfg gs g).history = c.history := by
  unfold Channel.govern
  rw [setTo_eq]

theorem settle_eq (p : DetParams) (c : Channel) : ∃ d f a g, c.settle p = { c with det := d, heldFlag := f, armed := a, guarded := g } := by
  unfold Channel.settle
  split
  · exact ⟨c.det, c.heldFlag, c.armed, c.guarded, rfl⟩
  · exact ⟨_, _, _, _, rfl⟩

theorem countUnsettled_eq (c : Channel) : c.countUnsettled = { c with
    unsettled := if c.det.phase = .settled then c.unsettled else (c.unsettled + 1) % 65536 } := by
  unfold Channel.countUnsettled
  split
  · rfl
  · rfl

theorem drive_eq (h : Nat) (zero missing : Bool) (c : Channel) : ∃ n i u d hs x y, c.drive cfg h zero missing =
    { c with limited := n, iacc := i, uc := u, duty := d, history := hs, limUp := x, limDown := y } ∧
    hs = if c.mode = .regulating then c.history.drop 1 ++ [d] else c.history := by
  by_cases hr : c.mode = .regulating
  · obtain ⟨n, i, u, d, hs, x, y, e⟩ := regulate_eq (cfg := cfg) (c := c) (h := h) (zero := zero) (missing := missing)
    have history := regulate_history (cfg := cfg) (c := c) (h := h) (zero := zero) (missing := missing)
    rw [e] at history
    rw [drive_regulating hr, e]
    exact ⟨n, i, u, d, hs, x, y, rfl, by rw [if_pos hr]; exact history⟩
  · by_cases hb : c.mode = .blind
    · obtain ⟨n, e⟩ := holdDuty_eq (cfg := cfg) (c := c) (h := h) (zero := zero) (missing := missing)
      rw [drive_blind hb, e]
      exact ⟨n, c.iacc, _, _, c.history, c.limUp, c.limDown, rfl, by rw [if_neg hr]⟩
    · rw [drive_off hr hb]
      exact ⟨c.limited, c.iacc, 0, 0, c.history, c.limUp, c.limDown, rfl, by rw [if_neg hr]⟩

theorem sensed_enterMode (m : Mode) (c : Channel) : (c.enterMode m).sensed = c.sensed := by
  obtain ⟨_, _, _, e⟩ := holdFor_eq m c
  obtain ⟨_, _, _, _, _, _, _, e'⟩ := outputFor_eq m (c.holdFor m)
  unfold Channel.enterMode Channel.blindFor
  rw [e', e]
  split
  · rfl
  · split <;> rfl

/-! ### The detector at a mode change (R111) -/

/-- What a mode change leaves the setpoint's and the detector's steps to start from. -/
theorem enterMode_settleSide (m : Mode) (c : Channel) :
    (c.enterMode m).det = (if (m.holds && !c.mode.holds) = true then Detector.cold else c.det) ∧
    (c.enterMode m).heldFlag = (!(m.holds && !c.mode.holds && c.det.phase == .settled) && c.heldFlag) ∧
    (c.enterMode m).armed = (!(m.holds && !c.mode.holds && c.det.phase == .settled) && c.armed) ∧
    (c.enterMode m).guarded = c.guarded ∧ (c.enterMode m).setpoint = c.setpoint ∧ (c.enterMode m).idle = c.idle ∧
    (c.enterMode m).unsettled = c.unsettled := by
  by_cases hm : m = c.mode
  · subst hm
    rw [enterMode_same]
    simp
  · obtain ⟨_, _, _, _, _, _, _, e⟩ := outputFor_eq m (c.holdFor m)
    unfold Channel.enterMode Channel.blindFor
    rw [if_neg hm, e]
    unfold Channel.holdFor
    by_cases began : (m.holds && !c.mode.holds) = true
    · by_cases hs : c.det.phase = .settled
      · simp only [began, hs, if_true, beq_self_eq_true, Bool.and_self, Bool.not_true, Bool.false_and]
        split <;> exact ⟨rfl, rfl, rfl, rfl, rfl, rfl, rfl⟩
      · have hs' : (c.det.phase == .settled) = false := by simpa using hs
        simp only [began, hs, hs', if_true, if_false, Bool.and_false, Bool.not_false, Bool.true_and]
        split <;> exact ⟨rfl, rfl, rfl, rfl, rfl, rfl, rfl⟩
    · have began' : (m.holds && !c.mode.holds) = false := by simpa using began
      simp only [began', Bool.false_eq_true, if_false, Bool.false_and, Bool.not_false, Bool.true_and]
      split <;> exact ⟨rfl, rfl, rfl, rfl, rfl, rfl, rfl⟩

/-! ### The sample judged -/

/-- A channel but for what the judgement of its sample writes. -/
def Channel.unsensed (c : Channel) : Channel :=
  { c with measured := 0, lastGood := false, refd := false, secondary := false, faultRun := 0, goodRun := 0, lost := false
           trip := false, cool := false }

theorem unsensed_judged (tc : List Reading) (inService flag : Bool) (c : Channel) :
    (c.judged cfg tc inService flag).unsensed = c.unsensed := by
  have sample (r : Reading) : (c.sample cfg r).1.unsensed = c.unsensed := by
    unfold Channel.sample
    split
    · rfl
    · split
      · rfl
      · split <;> rfl
  have tripped (l : Int) (x : Channel) : (x.tripped l).unsensed = x.unsensed := by
    unfold Channel.tripped
    split <;> rfl
  have cool (l : Int) (x : Channel) : (x.judgeCool l inService flag).unsensed = x.unsensed := by
    unfold Channel.judgeCool
    split <;> rfl
  unfold Channel.judged
  rw [cool, tripped, sample]

/-- A reading in range, and near the last where there is a reference (R98). -/
def GoodValue (c : Channel) (r : Reading) (v : Int) : Prop :=
  r = .value v ∧ -500 ≤ v ∧ v ≤ 6500 ∧ (c.refd = true → (v - c.measured).natAbs ≤ 150)

theorem goodValue_iff {r : Reading} {v : Int} : c.goodValue r = some v ↔ GoodValue c r v := by
  unfold Channel.goodValue GoodValue
  cases r with
  | openCircuit => simp
  | value w =>
    simp only [Reading.value.injEq]
    by_cases hr : w < -500 ∨ 6500 < w
    · rw [if_pos hr]
      exact ⟨nofun, fun ⟨e, a, b, _⟩ => by omega⟩
    · rw [if_neg hr]
      by_cases hd : c.refd = true ∧ 150 < (w - c.measured).natAbs
      · rw [if_pos hd]
        exact ⟨nofun, fun ⟨e, _, _, d⟩ => by subst e; have := d hd.1; omega⟩
      · rw [if_neg hd]
        refine ⟨fun e => ?_, fun ⟨e, _⟩ => by rw [e]⟩
        obtain rfl := Option.some.inj e
        exact ⟨rfl, by omega, by omega, fun h => Nat.le_of_not_lt fun g => hd ⟨h, g⟩⟩

theorem sample_good {r : Reading} {v : Int} (h : GoodValue c r v) : c.sample cfg r = (c.takeGood v, false) := by
  unfold Channel.sample
  rw [goodValue_iff.mpr h]

theorem sample_fault {r : Reading} (h : ∀ v, ¬GoodValue c r v) : c.sample cfg r =
    if c.faultRun + 1 < 3 then (c.takeFault, false)
    else if c.canSwitch cfg then (c.switched, true) else (c.sensorLost, false) := by
  have none : c.goodValue r = none := Option.eq_none_iff_forall_ne_some.mpr fun v hv => h v (goodValue_iff.mp hv)
  unfold Channel.sample
  rw [none]

/-- A good sample judged: the value taken, the trip, and its end. -/
theorem judged_good {tc : List Reading} {v : Int} (inService flag : Bool)
    (h : GoodValue c (tc.getD (c.sensor cfg) .openCircuit) v) : c.judged cfg tc inService flag = { c.takeGood v with
      cool := !decide (cfg.limit - 50 ≤ v) && (c.cool || inService)
      trip := (c.trip || decide ((cfg.limit : Int) ≤ v)) &&
        !(!decide (cfg.limit - 50 ≤ v) && (c.cool || inService) && inService && !flag) } := by
  have tripped : (c.takeGood v).tripped cfg.limit =
      { c.takeGood v with trip := c.trip || decide ((cfg.limit : Int) ≤ v) } := by
    unfold Channel.tripped
    by_cases hl : (cfg.limit : Int) ≤ v
    · cases ht : c.trip with
      | true => rw [if_neg (by rintro ⟨-, -, g⟩; exact g ht)]; simp [Channel.takeGood, ht]
      | false => rw [if_pos ⟨rfl, hl, by simp [Channel.takeGood, ht]⟩]; simp [Channel.takeGood, hl]
    · rw [if_neg (by rintro ⟨-, g, -⟩; exact hl g)]
      simp [Channel.takeGood, hl]
  have cooled (x : Channel) (hm : x.measured = v) : x.cooled cfg.limit inService =
      (!decide (cfg.limit - 50 ≤ v) && (x.cool || inService)) := by
    unfold Channel.cooled
    rw [hm]
    by_cases hl : (cfg.limit : Int) - 50 ≤ v <;> simp [hl]
  unfold Channel.judged
  rw [sample_good h, tripped]
  unfold Channel.judgeCool
  refine (if_pos rfl).trans ?_
  rw [cooled _ rfl]
  rfl

/-- A fault sample judged: no trip begins or ends. -/
theorem judged_fault {tc : List Reading} (inService flag : Bool)
    (h : ∀ v, ¬GoodValue c (tc.getD (c.sensor cfg) .openCircuit) v) : c.judged cfg tc inService flag =
      if c.faultRun + 1 < 3 then c.takeFault else if c.canSwitch cfg then c.switched else c.sensorLost := by
  have off (x : Channel) (hx : x.lastGood = false) : (x.tripped cfg.limit).judgeCool cfg.limit inService flag = x := by
    unfold Channel.tripped Channel.judgeCool
    rw [if_neg (by simp [hx]), if_neg (by simp [hx])]
  unfold Channel.judged
  rw [sample_fault h]
  split
  · exact off _ rfl
  · split
    · exact off _ rfl
    · exact off _ rfl

/-! ### The governing board (R104 to R106) -/

/-- What the setpoint's step leaves the detector's to start from. -/
theorem govern_settleSide (gs : Nat) (g : Option (Tag × Nat)) (c : Channel) :
    (c.govern cfg gs g).setpoint = c.candidate cfg g ∧ (c.govern cfg gs g).governing = g.map (·.1) ∧
    (c.govern cfg gs g).det = (if c.candidate cfg g = c.setpoint then c.det else Detector.cold) ∧
    (c.govern cfg gs g).heldFlag = (if c.candidate cfg g = c.setpoint then c.heldFlag else false) ∧
    (c.govern cfg gs g).armed = (if c.candidate cfg g = c.setpoint then c.armed else true) ∧
    (c.govern cfg gs g).guarded = (c.guarded || decide (c.setpoint + gs < c.candidate cfg g)) ∧
    (c.govern cfg gs g).unsettled = c.unsettled := by
  unfold Channel.govern
  rw [setTo_eq]
  exact ⟨rfl, rfl, rfl, rfl, rfl, rfl, rfl⟩

theorem govern_idle_some (gs : Nat) (g : Tag × Nat) (c : Channel) : (c.govern cfg gs (some g)).idle = .off := by
  unfold Channel.govern; rfl

theorem govern_idle_none (gs : Nat) (c : Channel) :
    (c.govern cfg gs none).idle = if c.idle = .off then .running 0 else c.idle := by
  unfold Channel.govern
  simp only []
  cases c.idle <;> rfl

theorem candidate_none (c : Channel) : c.candidate cfg none = if c.idle = .done then cfg.setback else c.setpoint := by
  unfold Channel.candidate
  cases c.idle <;> rfl

/-! ### The whole sample, field by field -/

theorem holds_iff (m : Mode) : m.holds = (m == .blind || m == .faulted) := by cases m <;> rfl

section
variable (tc : List Reading) (k : Nat) (s : State) (c : Channel)

/-- The channel of a sample, judged. -/
def Channel.judgedIn : Channel :=
  c.judged (s.cfg.channel k) tc (s.alarm.at (18 + k) == .inService) (s.alarm.flag (18 + k))

/-- The channel of a sample with its setpoint taken. -/
def Channel.governed : Channel :=
  (c.modeSampled tc k s).govern (s.cfg.channel k) s.cfg.guardStep (governingOf s k)

/-- The later steps of a sample leave what the mode has. -/
theorem atMode_sampled : (c.sampled tc k s).atMode = (c.modeSampled tc k s).atMode := by
  obtain ⟨_, _, _, _, e⟩ := settle_eq s.cfg.heatDet (c.governed tc k s)
  obtain ⟨_, _, _, _, _, _, _, e', -⟩ := drive_eq (cfg := s.cfg.channel k) (s.allot.caps.getD k 0) s.fume.graceZero
    s.heat.mainsMissing (c.settledSample tc k s)
  have settled : c.settledSample tc k s = ((c.governed tc k s).settle s.cfg.heatDet).countUnsettled := rfl
  unfold Channel.sampled
  rw [e', settled, countUnsettled_eq, e]
  exact atMode_govern ..

theorem sensed_sampled : (c.sampled tc k s).sensed = (c.judgedIn tc k s).sensed := by
  have e := atMode_sampled tc k s c
  have mode : (c.modeSampled tc k s).sensed = (c.judgedIn tc k s).sensed := sensed_enterMode ..
  unfold Channel.sensed at mode ⊢
  rw [e, mode]

theorem mode_sampled : (c.sampled tc k s).mode = modeOf s.loader.station (s.cfg.channel k).fn (c.sampled tc k s) := by
  have mode : (c.sampled tc k s).mode = (c.modeSampled tc k s).mode := congrArg (·.mode) (atMode_sampled tc k s c)
  have same (x y : Channel) (h : x.sensed = y.sensed) (st : StationState) (fn : ChFunction) : modeOf st fn x = modeOf st fn y := by
    change modeOf st fn x.sensed = modeOf st fn y.sensed
    rw [h]
  rw [mode, same _ _ (sensed_sampled tc k s c)]
  exact enterMode_mode ..

/-- The blind timer and the held duty follow the mode, and the history the output. -/
theorem blind_sampled (hc : (c.judgedIn tc k s).unsensed = c.unsensed) :
    (c.sampled tc k s).history = (if (c.sampled tc k s).mode = .regulating then
      c.history.drop 1 ++ [(c.sampled tc k s).duty] else c.history) ∧
    (c.sampled tc k s).held =
      (if (c.sampled tc k s).mode = .blind ∧ c.mode ≠ .blind then c.history.sum / 64 else c.held) ∧
    ((c.sampled tc k s).mode = .blind → (c.sampled tc k s).blind = if c.mode = .blind then c.blind else some 0) ∧
    ((c.sampled tc k s).mode ≠ .blind → c.mode = .blind → (c.sampled tc k s).blind = none) := by
  have at_ := atMode_sampled tc k s c
  have mode : (c.sampled tc k s).mode = (c.modeSampled tc k s).mode := congrArg (·.mode) at_
  have held : (c.sampled tc k s).held = (c.modeSampled tc k s).held := congrArg (·.held) at_
  have blind : (c.sampled tc k s).blind = (c.modeSampled tc k s).blind := congrArg (·.blind) at_
  have jmode : (c.judgedIn tc k s).mode = c.mode := congrArg (·.mode) hc
  have jheld : (c.judgedIn tc k s).held = c.held := congrArg (·.held) hc
  have jblind : (c.judgedIn tc k s).blind = c.blind := congrArg (·.blind) hc
  have jhistory : (c.judgedIn tc k s).history = c.history := congrArg (·.history) hc
  have entered : c.modeSampled tc k s = (c.judgedIn tc k s).enterMode (c.modeSampled tc k s).mode := by
    rw [show (c.modeSampled tc k s).mode = _ from enterMode_mode ..]; rfl
  refine ⟨?_, ?_⟩
  · obtain ⟨_, _, _, d, hs, _, _, e, history⟩ := drive_eq (cfg := s.cfg.channel k) (s.allot.caps.getD k 0)
      s.fume.graceZero s.heat.mainsMissing (c.settledSample tc k s)
    obtain ⟨_, _, _, _, e'⟩ := settle_eq s.cfg.heatDet (c.governed tc k s)
    have before : (c.settledSample tc k s).history = c.history := by
      have settled : c.settledSample tc k s = ((c.governed tc k s).settle s.cfg.heatDet).countUnsettled := rfl
      rw [settled, countUnsettled_eq, e']
      exact (history_govern ..).trans ((enterMode_history ..).trans jhistory)
    have whole : c.sampled tc k s = _ := e
    rw [whole]
    simp only [history, before]
  · rw [held, blind, mode]
    by_cases same : (c.modeSampled tc k s).mode = c.mode
    · have stays : c.modeSampled tc k s = c.judgedIn tc k s := by
        rw [entered, same, ← jmode, enterMode_same]
      rw [stays, jheld, jblind, jmode]
      refine ⟨(if_neg fun g => g.2 g.1).symm, fun g => (if_pos g).symm, fun g g' => absurd g' g⟩
    · obtain ⟨-, -, held', blind'⟩ := enterMode_blindFor (c := c.judgedIn tc k s) (by rw [jmode]; exact same)
      rw [← entered] at held' blind'
      rw [held', blind', jheld, jhistory]
      refine ⟨ite_of_iff ⟨fun g => ⟨g, fun g' => same (g.trans g'.symm)⟩, fun g => g.1⟩ rfl rfl,
        fun g => ?_, fun g _ => if_neg g⟩
      rw [if_pos g, if_neg fun g' => same (g.trans g'.symm)]

end

end Sys2Proof.Machine
end

section
/-! The detector at a sample, the alarms of a sample, and the governing board (R104 to R112). -/
namespace Sys2Proof.Machine

/-! ### The detector (R109, R110, R112) -/

theorem settle_held {p : DetParams} {c : Channel} (h : c.lastGood = false ∨ c.mode.holds = true) : c.settle p = c := by
  unfold Channel.settle
  exact if_pos (by simpa using h)

theorem settle_fed {p : DetParams} {c : Channel} (hg : c.lastGood = true) (hm : c.mode.holds = false) :
    (c.settle p).det = c.det.feed p (bandTwoSided p c.measured c.setpoint) ∧
    (c.settle p).heldFlag = (!(c.det.lostTo (c.settle p).det) && (c.heldFlag ||
      (c.det.phase != .settled && (c.settle p).det.phase == .settled && c.armed))) ∧
    (c.settle p).armed = (!(c.det.lostTo (c.settle p).det) &&
      !(c.det.phase != .settled && (c.settle p).det.phase == .settled) && c.armed) ∧
    (c.settle p).guarded = (c.guarded && !(c.det.phase != .confirming && (c.settle p).det.phase == .confirming)) := by
  unfold Channel.settle
  rw [if_neg (by simp [hg, hm])]
  generalize c.det.feed p (bandTwoSided p c.measured c.setpoint) = d
  refine ⟨rfl, ?_, ?_, ?_⟩
  · simp only []
    cases c.det.lostTo d
    · simp [Bool.and_comm]
    · simp
  · simp only []
    rw [Bool.and_comm (x := c.det.phase != .settled)]
    generalize (d.phase == .settled && c.det.phase != .settled) = settles
    cases c.det.lostTo d <;> cases settles <;> simp
  · simp only [Bool.and_comm (x := d.phase == .confirming)]

section
variable (tc : List Reading) (k : Nat) (s : State) (c : Channel)

/-- The sample's record has what its detector's step gave. -/
theorem sampled_settle : let d := c.sampled tc k s
    let w := (c.governed tc k s).settle s.cfg.heatDet
    d.det = w.det ∧ d.heldFlag = w.heldFlag ∧ d.armed = w.armed ∧ d.guarded = w.guarded ∧
    d.setpoint = (c.governed tc k s).setpoint ∧ d.governing = (c.governed tc k s).governing ∧
    d.idle = (c.governed tc k s).idle ∧ d.lastGood = (c.governed tc k s).lastGood ∧ d.mode = (c.governed tc k s).mode ∧
    d.measured = (c.governed tc k s).measured ∧
    d.unsettled = if w.det.phase = .settled then (c.governed tc k s).unsettled
      else ((c.governed tc k s).unsettled + 1) % 65536 := by
  intro d w
  obtain ⟨_, _, _, _, e⟩ := settle_eq s.cfg.heatDet (c.governed tc k s)
  obtain ⟨_, _, _, _, _, _, _, e', -⟩ := drive_eq (cfg := s.cfg.channel k) (s.allot.caps.getD k 0) s.fume.graceZero
    s.heat.mainsMissing (c.settledSample tc k s)
  have settled : c.settledSample tc k s = ((c.governed tc k s).settle s.cfg.heatDet).countUnsettled := rfl
  have whole : d = _ := e'
  have w_ : w = _ := e
  rw [whole, settled, countUnsettled_eq]
  refine ⟨rfl, rfl, rfl, rfl, ?_⟩
  change (_ ∧ _ ∧ _ ∧ _ ∧ _ ∧ _ ∧ (if w.det.phase = .settled then w.unsettled else (w.unsettled + 1) % 65536) = _)
  rw [e, w_]
  exact ⟨rfl, rfl, rfl, rfl, rfl, rfl, rfl⟩

/-- What the detector's step starts from: the hold that the mode begins, and the restart that the setpoint brings. -/
theorem governed_side : let g := c.governed tc k s
    let began := g.mode.holds && !c.mode.holds
    let heldLoss := began && c.det.phase == .settled
    let restarted := g.setpoint != c.setpoint
    g.det = (if restarted || began then Detector.cold else c.det) ∧
    g.heldFlag = (!restarted && !heldLoss && c.heldFlag) ∧ g.armed = (restarted || (!heldLoss && c.armed)) ∧
    g.guarded = (c.guarded || decide (c.setpoint + s.cfg.guardStep < g.setpoint)) ∧ g.unsettled = c.unsettled := by
  have unsensed := unsensed_judged (cfg := s.cfg.channel k) tc (s.alarm.at (18 + k) == .inService)
    (s.alarm.flag (18 + k)) c
  have jmode : (c.judgedIn tc k s).mode = c.mode := congrArg (·.mode) unsensed
  have jdet : (c.judgedIn tc k s).det = c.det := congrArg (·.det) unsensed
  have jheld : (c.judgedIn tc k s).heldFlag = c.heldFlag := congrArg (·.heldFlag) unsensed
  have jarmed : (c.judgedIn tc k s).armed = c.armed := congrArg (·.armed) unsensed
  have jguarded : (c.judgedIn tc k s).guarded = c.guarded := congrArg (·.guarded) unsensed
  have jset : (c.judgedIn tc k s).setpoint = c.setpoint := congrArg (·.setpoint) unsensed
  have juns : (c.judgedIn tc k s).unsettled = c.unsettled := congrArg (·.unsettled) unsensed
  have entered : c.modeSampled tc k s = (c.judgedIn tc k s).enterMode (c.modeSampled tc k s).mode := by
    rw [show (c.modeSampled tc k s).mode = _ from enterMode_mode ..]; rfl
  have gmode : (c.governed tc k s).mode = (c.modeSampled tc k s).mode :=
    congrArg (·.mode) (atMode_govern (cfg := s.cfg.channel k) s.cfg.guardStep (governingOf s k) (c.modeSampled tc k s))
  obtain ⟨edet, eheld, earmed, eguarded, eset, -, euns⟩ :=
    enterMode_settleSide (c.modeSampled tc k s).mode (c.judgedIn tc k s)
  rw [← entered] at edet eheld earmed eguarded eset euns
  obtain ⟨gset, -, gdet, gheld, garmed, gguarded, guns⟩ := govern_settleSide (cfg := s.cfg.channel k) s.cfg.guardStep
    (governingOf s k) (c.modeSampled tc k s)
  rw [← gset, edet, jmode, jdet, eset, jset] at gdet
  rw [← gset, eheld, jmode, jdet, jheld, eset, jset] at gheld
  rw [← gset, earmed, jmode, jdet, jarmed, eset, jset] at garmed
  rw [← gset, eguarded, jguarded, eset, jset] at gguarded
  rw [euns, juns] at guns
  rw [← gmode] at gdet gheld garmed
  intro g began heldLoss restarted
  refine ⟨gdet.trans ?_, gheld.trans ?_, garmed.trans ?_, gguarded, guns⟩
  all_goals
    by_cases hs : g.setpoint = c.setpoint
    · have hr : restarted = false := by simp [restarted, hs]
      rw [hr]
      refine (if_pos hs).trans ?_
      simp [began, heldLoss, g]
    · have hr : restarted = true := by simp [restarted, hs]
      rw [hr]
      refine (if_neg hs).trans ?_
      simp

end

/-! ### The alarms of a sample -/

theorem standing_settleLost {k d : Nat} {s : State} (h : s.alarm.standing d = true) : (settleLost k s).alarm.standing d = true := by
  rw [settleLost_alarm]
  exact AlarmUnit.standing_appear_of_standing h

theorem standing_settleLost_own {k : Nat} {s : State} (hl : 24 + k < s.alarm.place.length) :
    (settleLost k s).alarm.standing (24 + k) = true := by
  rw [settleLost_alarm]
  exact AlarmUnit.standing_appear hl (.inr (.inr AlarmUnit.flag_setFlag_false))

theorem standing_rederive {k d : Nat} {s : State} (h : s.alarm.standing d = true) : (rederive k s).alarm.standing d = true := by
  unfold rederive
  split
  · exact h
  · simp only []
    split
    · exact standing_settleLost h
    · exact h

/-- A mode that ends a SETTLED detector brings SETTLE LOST (R111, R112). -/
theorem standing_rederive_loss {k : Nat} {s : State} {c : Channel} (h : channel s k = some c)
    (hl : c.lossAt (modeOf s.loader.station (s.cfg.channel k).fn c) = true) (hp : 24 + k < s.alarm.place.length) :
    (rederive k s).alarm.standing (24 + k) = true := by
  unfold rederive
  rw [show s.heat.channels[k]? = some c from h]
  simp only [hl, if_true]
  exact standing_settleLost_own hp

/-- A report that a recovery condition does not hold moves no code (R189). -/
theorem reportRecovery_false_at (c d : Nat) (s : State) : (reportRecovery c false s).alarm.at d = s.alarm.at d := by
  unfold reportRecovery
  split
  · rfl
  · rfl

theorem reportRecovery_inService {c : Nat} {s : State} (hf : s.alarm.flag c = false) (hp : s.alarm.at c = .inService) :
    reportRecovery c true s = leaveInService c { s with alarm := s.alarm.setFlag c true } := by
  rw [reportRecovery_holds hf, hp]

section
variable {k : Nat} {s : State} {c : Channel} (hk : k < 6) (h : channel s k = some c)

theorem standing_settleStep {d : Nat} (hd : s.alarm.standing d = true) : (settleStep k s).alarm.standing d = true := by
  unfold settleStep
  split
  · exact hd
  · simp only []
    split
    · exact standing_settleLost hd
    · exact hd

include h in
theorem standing_settleStep_lost (hl : c.det.lostTo (c.settle s.cfg.heatDet).det = true) (hp : 24 + k < s.alarm.place.length) :
    (settleStep k s).alarm.standing (24 + k) = true := by
  unfold settleStep
  rw [h]
  simp only [hl, if_true]
  exact standing_settleLost_own hp

include h in
theorem coolStep_good (hg : c.lastGood = true) : coolStep k s = reportRecovery (18 + k)
    (c.cooled (s.cfg.channel k).limit (s.alarm.at (18 + k) == .inService))
    (modChannel k (fun x => { x with cool := c.cooled (s.cfg.channel k).limit (s.alarm.at (18 + k) == .inService) }) s) := by
  unfold coolStep
  rw [h]
  exact if_pos hg

include h in
theorem coolStep_fault (hg : c.lastGood = false) : coolStep k s = s := by
  unfold coolStep
  rw [h]
  exact if_neg (by simp [hg])

/-- OVERTEMP is released at a cool sample of a channel in service (R103). -/
def Released (k : Nat) (s : State) (c : Channel) : Prop :=
  c.cooled (s.cfg.channel k).limit (s.alarm.at (18 + k) == .inService) = true ∧ s.alarm.flag (18 + k) = false ∧
    s.alarm.at (18 + k) = .inService

include h in
theorem coolStep_released (hg : c.lastGood = true) (hr : Released k s c) : coolStep k s = leaveInService (18 + k)
    { modChannel k (fun x => { x with
        cool := c.cooled (s.cfg.channel k).limit (s.alarm.at (18 + k) == .inService) }) s with
      alarm := s.alarm.setFlag (18 + k) true } := by
  obtain ⟨hc, hf, hp⟩ := hr
  rw [coolStep_good h hg, hc]
  exact reportRecovery_inService hf hp

include hk h in
/-- A mode that ends a SETTLED detector at a sample brings SETTLE LOST. -/
theorem standing_coolStep_loss (hp : 24 + k < s.alarm.place.length)
    (hl : (c.judgeCool (s.cfg.channel k).limit (s.alarm.at (18 + k) == .inService) (s.alarm.flag (18 + k))).lossAt
      (modeOf s.loader.station (s.cfg.channel k).fn
        (c.judgeCool (s.cfg.channel k).limit (s.alarm.at (18 + k) == .inService) (s.alarm.flag (18 + k)))) = true) :
    (rederive k (coolStep k s)).alarm.standing (24 + k) = true := by
  have step := ChannelStep.coolStep hk s
  cases hg : c.lastGood with
  | false =>
    rw [coolStep_fault h hg]
    unfold Channel.judgeCool at hl
    rw [if_neg (by simp [hg])] at hl
    exact standing_rederive_loss h hl hp
  | true =>
    by_cases hr : Released k s c
    · refine standing_rederive ?_
      have released : (c.trip && !(c.cooled (s.cfg.channel k).limit (s.alarm.at (18 + k) == .inService) &&
          (s.alarm.at (18 + k) == .inService) && !s.alarm.flag (18 + k))) = false := by
        obtain ⟨hc, hf, hs⟩ := hr
        rw [hc, hf, hs]
        exact Bool.and_false _
      unfold Channel.judgeCool at hl
      rw [if_pos hg, released] at hl
      rw [coolStep_released h hg hr]
      unfold leaveInService
      have ot : inLimits 18 (18 + k) 23 = true := inLimits_eq_true_iff.mpr (by omega)
      simp only [ot, if_true, Nat.add_sub_cancel_left]
      generalize hu : ({ modChannel k (fun x => { x with
        cool := c.cooled (s.cfg.channel k).limit (s.alarm.at (18 + k) == .inService) }) s with
          alarm := s.alarm.setFlag (18 + k) true } : State) = u
      have cleared := offAlarm_clearCode (18 + k) false u
      have heat : (clearCode (18 + k) false u).heat = u.heat := congrArg (·.heat) cleared
      have loader : (clearCode (18 + k) false u).loader = s.loader :=
        (congrArg (·.loader) cleared).trans (by rw [← hu]; rfl)
      have held : channel (clearCode (18 + k) false u) k = some { c with
          cool := c.cooled (s.cfg.channel k).limit (s.alarm.at (18 + k) == .inService) } := by
        rw [channel, heat, ← hu]
        exact channel_modify h _
      have places : (clearCode (18 + k) false u).alarm.place.length = s.alarm.place.length := by
        rw [(others_clearCode ..).places, ← hu]; rfl
      refine standing_rederive_loss (channel_modify held _) ?_ (by rw [← places] at hp; exact hp)
      simp only [State.cfg, (ChannelStep.modChannel ..).loader, loader]
      exact hl
    · have held : channel (coolStep k s) k =
          some (c.judgeCool (s.cfg.channel k).limit (s.alarm.at (18 + k) == .inService) (s.alarm.flag (18 + k))) := by
        rw [coolStep_good h hg, channel_reportRecovery (channel_modify h _) hk]
        have kept : (c.trip && !(c.cooled (s.cfg.channel k).limit (s.alarm.at (18 + k) == .inService) &&
            (s.alarm.at (18 + k) == .inService) && !s.alarm.flag (18 + k))) = c.trip := by
          have : (c.cooled (s.cfg.channel k).limit (s.alarm.at (18 + k) == .inService) &&
              (s.alarm.at (18 + k) == .inService) && !s.alarm.flag (18 + k)) = false := by
            rw [Bool.eq_false_iff]
            intro g
            simp only [Bool.and_eq_true, beq_iff_eq, Bool.not_eq_true'] at g
            exact hr ⟨g.1.1, g.2, g.1.2⟩
          rw [this]; exact Bool.and_true _
        unfold Channel.judgeCool
        rw [if_pos hg, kept]
        exact congrArg some (if_neg hr)
      refine standing_rederive_loss held ?_ (by rw [step.places]; exact hp)
      rw [step.loader, step.cfg]
      exact hl

/-- The trip's step with its appearance (R103). -/
theorem standing_tripStep (h : channel s k = some c) (hg : c.lastGood = true) (hl : ((s.cfg.channel k).limit : Int) ≤ c.measured)
    (ht : c.trip = false) (hk : k < 6) (hp : 18 + k < s.alarm.place.length) :
    (tripStep k s).alarm.standing (18 + k) = true := by
  have level : ∀ k < 6, levelOf (18 + k) = 7 := by decide
  unfold tripStep
  rw [h]
  simp only []
  rw [if_pos ⟨hg, hl, by simp [ht]⟩, appearance_alarm]
  exact AlarmUnit.standing_appear hp (.inl (by simp [Image.masked, aOvertemp, level k hk]))

end

end Sys2Proof.Machine
end

section
/-! HEAT_SAMPLE settled: the alarms through the end of the command, and the governing board (R98 to R112). -/
namespace Sys2Proof.Machine

/-! ### An idle OVERTEMP through the end of a command -/

/-- An idle code that no condition is reported of stays idle. -/
theorem idle_finish {c : Nat} {s : State} (hr : ∀ s, reportCode c s = s) (h : s.alarm.at c = .idle) :
    (finish s).alarm.at c = .idle := by
  refine finish_induction (P := fun t => t.alarm.at c = .idle) (fun t ht => by rw [deliverDropped_alarm]; exact ht)
    (fun d t ht => ?_) (fun d t hp ht => ?_) h
  · by_cases hd : c = d
    · subst hd; rw [hr]; exact ht
    · rw [(others_reportCode d t).place c hd]; exact ht
  · have asked : t.alarm.at d = .request := by
      have := (pickRequest_spec hp).1
      simp only [candidates, List.mem_filter, Bool.and_eq_true, beq_iff_eq] at this
      exact this.2.1
    have hd : c ≠ d := by rintro rfl; rw [ht] at asked; exact absurd asked nofun
    rw [(others_announcePick d t).place c hd]; exact ht

theorem reportCode_overtemp {k : Nat} (hk : k < 6) (s : State) : reportCode (18 + k) s = s := by
  have live : ∀ k < 6, alarmLive (18 + k) = false := by decide
  unfold reportCode
  rw [if_neg (by simp [live k hk]), if_neg fun g => g.2 (by omega)]

/-! ### The alarms of one channel's sample -/

section
variable {tc : List Reading} {k : Nat} {s : State} {c : Channel} (hk : k < 6) (h : channel s k = some c)
include hk h

/-- Past the mode a sample acts on SETTLE LOST alone. -/
theorem at_channelSample {d : Nat} (hd : d ≠ 24 + k) :
    (channelSample tc k s).alarm.at d = (modeStep tc k c s).alarm.at d := by
  rw [channelSample_eq hk h]
  exact ((ChannelStep.settleStep k (governStep tc k c s)).codes d (by simpa using hd)).1

omit hk in
/-- The state in which the end of a trip is judged has the channel as its sample and its trip left it. -/
theorem tripped_state : ∃ x, modeStep tc k c s = rederive k (coolStep k x) ∧ ChannelStep k [k, 18 + k] s x ∧
    channel x k = some ((c.sample (s.cfg.channel k) (tc.getD (c.sensor (s.cfg.channel k)) .openCircuit)).1.tripped
      (s.cfg.channel k).limit) ∧
    (x.alarm.at (18 + k) == .inService) = (s.alarm.at (18 + k) == .inService) ∧
    x.alarm.flag (18 + k) = s.alarm.flag (18 + k) := by
  have sample := ChannelStep.sampleStep tc k c s
  obtain ⟨at_, flag⟩ := tripStep_overtemp k (sampleStep tc k c s)
  obtain ⟨at', flag'⟩ := sample.codes (18 + k) (by simp)
  have tripped := channel_tripStep (channel_sampleStep h tc)
  rw [sample.cfg] at tripped
  exact ⟨_, rfl, sample.trans (ChannelStep.tripStep k _), tripped, by rw [at_, at'], by rw [flag, flag']⟩

omit h in
/-- A sensor that switches asks for SENSOR SWITCHED (R99). -/
theorem standing_modeStep_switched (hs : (c.sample (s.cfg.channel k) (tc.getD (c.sensor (s.cfg.channel k)) .openCircuit)).2 = true)
    (hm : s.cfg.masked k = false ∨ s.alarm.flag k = false) (hp : s.alarm.place.length = 64) :
    (modeStep tc k c s).alarm.standing k = true := by
  have asked : (sampleStep tc k c s).alarm.standing k = true := by
    unfold sampleStep
    simp only []
    rw [if_pos hs, appearance_alarm]
    refine AlarmUnit.standing_appear ?_ (hm.imp (fun g => g) .inr)
    change k < s.alarm.place.length
    omega
  have rest := (ChannelStep.tripStep k (sampleStep tc k c s)).trans
    ((ChannelStep.coolStep hk _).trans (ChannelStep.rederive ..))
  unfold modeStep
  rw [rest.standing (by simp)]
  exact asked

/-- A good sample at the limit that trips the channel asks for OVERTEMP (R103). -/
theorem standing_modeStep_trip {v : Int} (hv : GoodValue c (tc.getD (c.sensor (s.cfg.channel k)) .openCircuit) v)
    (hl : ((s.cfg.channel k).limit : Int) ≤ v) (ht : c.trip = false) (hp : s.alarm.place.length = 64) :
    (modeStep tc k c s).alarm.standing (18 + k) = true := by
  have sample := ChannelStep.sampleStep tc k c s
  have sampled := channel_sampleStep h tc
  rw [sample_good hv] at sampled
  have asked : (tripStep k (sampleStep tc k c s)).alarm.standing (18 + k) = true :=
    standing_tripStep sampled rfl (by rw [sample.cfg]; exact hl) ht hk (by rw [sample.places]; omega)
  have tripped := channel_tripStep sampled
  rw [sample.cfg] at tripped
  have good : ((c.takeGood v).tripped (s.cfg.channel k).limit).lastGood = true := by
    unfold Channel.tripped; split <;> rfl
  have measured : ((c.takeGood v).tripped (s.cfg.channel k).limit).measured = v := by
    unfold Channel.tripped; split <;> rfl
  unfold modeStep
  rw [(ChannelStep.rederive ..).standing (by simp), coolStep_good tripped good]
  have warm (img : Image) (hi : img = s.cfg) (b : Bool) :
      ((c.takeGood v).tripped (s.cfg.channel k).limit).cooled (img.channel k).limit b = false := by
    subst hi
    unfold Channel.cooled
    rw [measured, if_pos (by omega)]
  rw [warm _ (sample.trans (ChannelStep.tripStep k _)).cfg]
  rw [AlarmUnit.standing_iff, reportRecovery_false_at]
  exact AlarmUnit.standing_iff.mp asked

omit hk in
/-- A cool sample in service takes OVERTEMP out of service (R103, R196). -/
theorem at_modeStep_released {v : Int} (hv : GoodValue c (tc.getD (c.sensor (s.cfg.channel k)) .openCircuit) v)
    (hl : v < (s.cfg.channel k).limit - 50) (hp : s.alarm.at (18 + k) = .inService) (hf : s.alarm.flag (18 + k) = false) :
    (modeStep tc k c s).alarm.at (18 + k) = .idle := by
  obtain ⟨x, eq, step, held, at_, flag⟩ := tripped_state (tc := tc) h
  rw [sample_good hv] at held
  have good : ((c.takeGood v).tripped (s.cfg.channel k).limit).lastGood = true := by
    unfold Channel.tripped; split <;> rfl
  have measured : ((c.takeGood v).tripped (s.cfg.channel k).limit).measured = v := by
    unfold Channel.tripped; split <;> rfl
  have inService : x.alarm.at (18 + k) = .inService := by
    rw [hp] at at_
    simpa using at_
  have released : Released k x ((c.takeGood v).tripped (s.cfg.channel k).limit) := by
    refine ⟨?_, flag.trans hf, inService⟩
    unfold Channel.cooled
    rw [step.cfg, measured, if_neg (by omega), inService]
    simp
  rw [eq, ((ChannelStep.rederive ..).codes (18 + k) (by simp)).1, coolStep_released held good released]
  exact at_leaveInService ..

/-- A mode that ends a SETTLED detector asks for SETTLE LOST (R111, R112). -/
theorem standing_modeStep_loss (hp : s.alarm.place.length = 64)
    (hl : (c.judgedIn tc k s).lossAt (modeOf s.loader.station (s.cfg.channel k).fn (c.judgedIn tc k s)) = true) :
    (modeStep tc k c s).alarm.standing (24 + k) = true := by
  obtain ⟨x, eq, step, held, at_, flag⟩ := tripped_state (tc := tc) h
  rw [eq]
  refine standing_coolStep_loss hk held (by rw [step.places]; omega) ?_
  rw [step.cfg, step.loader, at_, flag]
  exact hl

/-- SETTLE LOST at a sample: by the mode or by the value (R111, R112). -/
theorem standing_channelSample_lost (hp : s.alarm.place.length = 64)
    (hl : (c.judgedIn tc k s).lossAt (modeOf s.loader.station (s.cfg.channel k).fn (c.judgedIn tc k s)) = true ∨
      (c.governed tc k s).det.lostTo ((c.governed tc k s).settle s.cfg.heatDet).det = true) :
    (channelSample tc k s).alarm.standing (24 + k) = true := by
  have step := ChannelStep.governStep hk tc c s
  rw [channelSample_eq hk h]
  change (settleStep k (governStep tc k c s)).alarm.standing (24 + k) = true
  rcases hl with hl | hl
  · exact standing_settleStep (standing_modeStep_loss hk h hp hl)
  · refine standing_settleStep_lost (channel_governStep hk h tc) ?_ (by rw [step.places]; omega)
    rw [step.cfg]
    exact hl

end

/-! ### The governing board (R104) -/

theorem findSome?_append_of_none {α β : Type} {f : α → Option β} {pre post : List α} {x : α} {y : β} (h : ∀ a ∈ pre, f a = none)
    (hx : f x = some y) : (pre ++ x :: post).findSome? f = some y := by
  rw [List.findSome?_append, List.findSome?_eq_none_iff.mpr h, List.findSome?_cons, hx]
  rfl

theorem governingOf_record {s : State} {k : Nat} {g : Tag × Nat} (h : s.board.queue.findSome? (recordValue s k) = some g) :
    governingOf s k = some g := by
  unfold governingOf; rw [h]

theorem governingOf_noRecord {s : State} {k : Nat} (h : ∀ x ∈ s.board.queue, recordValue s k x = none) :
    governingOf s k = s.board.expected.findSome? fun e => (refValue s k e.ref).map fun v => (e.tag, v) := by
  unfold governingOf; rw [List.findSome?_eq_none_iff.mpr h]

theorem endPoint_eq (img : Image) (k : Nat) : endPoint img k =
    if (img.channel k).fn.preheat then (img.zone (img.channel k).zone).stop else img.geometry.wavePos := by
  unfold endPoint
  cases (img.channel k).fn <;> rfl

theorem recordValue_passed {s : State} {k : Nat} {r : BoardRecord} {p : Pos} (hp : r.trail = some p)
    (hr : reached s.pos.counter (offset p (endPoint s.cfg k)) = true) : recordValue s k r = none := by
  unfold recordValue
  simp only [hp, hr, if_true]

theorem recordValue_before {s : State} {k : Nat} {r : BoardRecord}
    (h : ∀ p, r.trail = some p → reached s.pos.counter (offset p (endPoint s.cfg k)) = false) :
    recordValue s k r = (refValue s k r.ref).map fun v => (r.tag, v) := by
  unfold recordValue
  cases hp : r.trail with
  | none => rfl
  | some p => simp only [h p hp, Bool.false_eq_true, if_false]

theorem refValue_none {s : State} {k : Nat} {r : Ref} (h : refHeat r s = none) : refValue s k r = none := by
  unfold refValue; rw [h]

theorem refValue_some {s : State} {k : Nat} {r : Ref} {p : HeatPage} (h : refHeat r s = some p) :
    refValue s k r = if pageValue s.cfg k p = 0 then none else some (pageValue s.cfg k p) := by
  unfold refValue; rw [h]

theorem refHeat_of_page {s : State} {r : Ref} {p : HeatPage} (h : refPage s [] .heat r = some (.heat p)) :
    refHeat r s = some p := by unfold refHeat; rw [h]

theorem refHeat_of_none {s : State} {r : Ref} (h : refPage s [] .heat r = none) : refHeat r s = none := by
  unfold refHeat; rw [h]

/-! ### Through the end of the command -/

section
variable {tc : List Reading} {k : Nat} {c : Channel} {s v u : State} (hk : k < 6) (b : SampledBetween tc k c s v u)
include hk b

theorem SampledBetween.channel_after : channel u k = some (c.sampled tc k s) := by
  obtain ⟨at_, flag⟩ := b.codes (18 + k) (.inr (.inl rfl))
  rw [b.after, channel_channelSample hk b.before, (sampled_congr b.rest at_ flag c).2]

omit hk in
theorem SampledBetween.cfg : v.cfg = s.cfg := by
  change (offHeat v).cfg = (offHeat s).cfg; rw [b.rest]

/-- OVERTEMP at a new trip stands through the end of the command. -/
theorem SampledBetween.trip {x : Int} (hv : GoodValue c (tc.getD (c.sensor (s.cfg.channel k)) .openCircuit) x)
    (hl : ((s.cfg.channel k).limit : Int) ≤ x) (ht : c.trip = false) (hp : s.alarm.place.length = 64) :
    (finish u).alarm.standing (18 + k) = true := by
  have codes : ∀ k < 6, alarmLive (18 + k) = false ∧ levelOf (18 + k) ≠ 0 := by decide
  obtain ⟨live, level⟩ := codes k hk
  have cfg := b.cfg
  refine standing_finish live level (fun y hy => ?_) ?_
  · rw [dueFlag, if_neg (by simp [live]), if_neg fun g => g.2 (by omega)] at hy
    exact absurd hy nofun
  · rw [AlarmUnit.standing_iff, b.codes' _ (.inr (.inl rfl)), at_channelSample hk b.before (by omega)]
    exact AlarmUnit.standing_iff.mp (standing_modeStep_trip hk b.before (by rw [cfg]; exact hv) (by rw [cfg]; exact hl) ht
      (b.places.trans hp))

/-- An OVERTEMP that a cool sample releases is idle after the command. -/
theorem SampledBetween.released {x : Int} (hv : GoodValue c (tc.getD (c.sensor (s.cfg.channel k)) .openCircuit) x)
    (hl : x < (s.cfg.channel k).limit - 50) (hp : s.alarm.at (18 + k) = .inService) (hf : s.alarm.flag (18 + k) = false) :
    (finish u).alarm.at (18 + k) = .idle := by
  have cfg := b.cfg
  obtain ⟨at_, flag⟩ := b.codes (18 + k) (.inr (.inl rfl))
  refine idle_finish (reportCode_overtemp hk) ?_
  rw [b.codes' _ (.inr (.inl rfl)), at_channelSample hk b.before (by omega)]
  exact at_modeStep_released b.before (by rw [cfg]; exact hv) (by rw [cfg]; exact hl) (at_.trans hp) (flag.trans hf)

/-- SENSOR SWITCHED stands through the end of the command. -/
theorem SampledBetween.switched
    (hs : (c.sample (s.cfg.channel k) (tc.getD (c.sensor (s.cfg.channel k)) .openCircuit)).2 = true)
    (hg : (c.sampled tc k s).lastGood = false) (hm : s.cfg.masked k = false ∨ s.alarm.flag k = false)
    (hp : s.alarm.place.length = 64) : (finish u).alarm.standing k = true := by
  have codes : ∀ k < 6, alarmLive k = false ∧ levelOf k ≠ 0 := by decide
  obtain ⟨live, level⟩ := codes k hk
  have cfg := b.cfg
  refine standing_finish live level (fun y hy => ?_) ?_
  · rw [dueFlag, if_neg (by simp [live])] at hy
    split at hy
    · rw [← Option.some.inj hy, recoveryHolds, if_pos (by omega), b.channel_after hk]
      simp [hg]
    · exact absurd hy nofun
  · rw [AlarmUnit.standing_iff, b.codes' _ (.inl rfl), at_channelSample hk b.before (by omega)]
    exact AlarmUnit.standing_iff.mp (standing_modeStep_switched hk (by rw [cfg]; exact hs)
      (by rw [cfg, (b.codes k (.inl rfl)).2]; exact hm) (b.places.trans hp))

/-- SETTLE LOST stands through the end of the command. -/
theorem SampledBetween.lost (hd : (c.sampled tc k s).det.phase ≠ .settled)
    (hl : (c.judgedIn tc k s).lossAt (modeOf s.loader.station (s.cfg.channel k).fn (c.judgedIn tc k s)) = true ∨
      (c.governed tc k s).det.lostTo ((c.governed tc k s).settle s.cfg.heatDet).det = true)
    (hp : s.alarm.place.length = 64) : (finish u).alarm.standing (24 + k) = true := by
  have codes : ∀ k < 6, alarmLive (24 + k) = false ∧ levelOf (24 + k) ≠ 0 := by decide
  obtain ⟨live, level⟩ := codes k hk
  have cfg := b.cfg
  have loader : v.loader = s.loader := congrArg (·.loader) b.rest
  obtain ⟨at_, flag⟩ := b.codes (18 + k) (.inr (.inl rfl))
  have judged : c.judgedIn tc k v = c.judgedIn tc k s := by unfold Channel.judgedIn; rw [cfg, at_, flag]
  have governing : governingOf v k = governingOf s k := by
    change governingOf (offHeat v) k = governingOf (offHeat s) k; rw [b.rest]
  have governed : c.governed tc k v = c.governed tc k s := by
    simp only [Channel.governed, Channel.modeSampled, cfg, loader, governing, at_, flag]
  refine standing_finish live level (fun y hy => ?_) ?_
  · rw [dueFlag, if_neg (by simp [live])] at hy
    split at hy
    · rw [← Option.some.inj hy, recoveryHolds, if_neg (by omega), if_pos (inLimits_eq_true_iff.mpr (by omega)),
        Nat.add_sub_cancel_left, b.channel_after hk]
      simpa using hd
    · exact absurd hy nofun
  · rw [AlarmUnit.standing_iff, b.codes' _ (.inr (.inr rfl))]
    refine AlarmUnit.standing_iff.mp (standing_channelSample_lost hk b.before (b.places.trans hp) ?_)
    rw [judged, governed, cfg, loader]
    exact hl

end

end Sys2Proof.Machine
end

section
open Sys2Proof Sys2Proof.Machine

/-- Settles O35. -/
theorem heatSampleJudges : Obligations.HeatSampleJudges := by
  refine ⟨fun tc k s c ha hf hk hfn hc hp => ?_, fun s k => ⟨fun pre r post g hq hpre hr => ?_, fun hn => ⟨fun pre e post v hq hpre he => ?_,
    fun hn' => ?_⟩⟩, fun s k r => ?_, fun s k ref => ⟨refValue_none, fun p hp => ?_⟩,
    fun s => ⟨refHeat_of_page rfl, fun c => refHeat_of_none rfl, fun n => ?_, fun i hi => refHeat_of_none (if_neg hi),
      fun i p hi hp => refHeat_of_page ((if_pos hi).trans hp)⟩⟩
  · obtain ⟨v, b⟩ := heatSampleAll_between (tc := tc) hk hfn hc
    have after := channel_heatSampleAll (tc := tc) hk hfn hc
    have sensed := sensed_sampled tc k s c
    have unsensed : (c.judgedIn tc k s).unsensed = c.unsensed := unsensed_judged ..
    obtain ⟨history, held, blind, blind'⟩ := blind_sampled tc k s c unsensed
    have mode := mode_sampled tc k s c
    have jmode : (c.judgedIn tc k s).mode = c.mode := congrArg (·.mode) unsensed
    have jdet : (c.judgedIn tc k s).det = c.det := congrArg (·.det) unsensed
    have jset : (c.judgedIn tc k s).setpoint = c.setpoint := congrArg (·.setpoint) unsensed
    have jidle : (c.judgedIn tc k s).idle = c.idle := congrArg (·.idle) unsensed
    obtain ⟨ddet, dheld, darmed, dguarded, dset, dgov, didle, dgood, dmode, dmeas, duns⟩ := sampled_settle tc k s c
    obtain ⟨gdet, gheld, garmed, gguarded, guns⟩ := governed_side tc k s c
    refine ⟨_, c.sampled tc k s, exec_heatSample (heatActs_of ha hf), by rw [finish_channel, after], fun x hx => ?_,
      fun hx => ?_, ?_, ?_, history, held, blind, blind', fun g hg => ?_, fun hg => ?_, ?_⟩
    · have good : GoodValue c (tc.getD (c.sensor (s.cfg.channel k)) .openCircuit) x := hx
      have judged := judged_good (cfg := s.cfg.channel k) (s.alarm.at (18 + k) == .inService) (s.alarm.flag (18 + k)) good
      have whole := sensed.trans (congrArg Channel.sensed judged)
      have lost : (c.sampled tc k s).lost = (c.lost && decide (min 3 (c.goodRun + 1) < 3)) := congrArg (·.lost) whole
      have trip : (c.sampled tc k s).trip = ((c.trip || decide (((s.cfg.channel k).limit : Int) ≤ x)) &&
          !(!decide ((s.cfg.channel k).limit - 50 ≤ x) && (c.cool || s.alarm.at (18 + k) == .inService) &&
            (s.alarm.at (18 + k) == .inService) && !s.alarm.flag (18 + k))) := congrArg (·.trip) whole
      have cool : (c.sampled tc k s).cool = (!decide ((s.cfg.channel k).limit - 50 ≤ x) &&
          (c.cool || s.alarm.at (18 + k) == .inService)) := congrArg (·.cool) whole
      refine ⟨congrArg (·.measured) whole, congrArg (·.lastGood) whole, congrArg (·.refd) whole, congrArg (·.secondary) whole,
        congrArg (·.faultRun) whole, congrArg (·.goodRun) whole, ?_, fun hl => ⟨?_, fun ht => b.trip hk good hl ht hp⟩, ?_,
        fun hl hs hfl => ⟨?_, b.released hk good hl hs hfl⟩, fun hl hs => ?_⟩
      · rw [lost, Bool.and_eq_true, decide_eq_true_eq]
        exact and_congr Iff.rfl (by omega)
      · rw [trip, decide_eq_true hl, decide_eq_true (show ((s.cfg.channel k).limit : Int) - 50 ≤ x by omega)]
        simp
      · rw [cool, Bool.and_eq_true, Bool.or_eq_true, Bool.not_eq_true', decide_eq_false_iff_not, beq_iff_eq, Int.not_le]
      · rw [trip, decide_eq_false (show ¬ ((s.cfg.channel k).limit : Int) - 50 ≤ x by omega), hs, hfl]
        simp
      · rw [trip, decide_eq_false (show ¬ ((s.cfg.channel k).limit : Int) ≤ x by omega)]
        rcases hs with hs | hs
        · simp [hs]
        · rw [decide_eq_true (show ((s.cfg.channel k).limit : Int) - 50 ≤ x from hs)]
          simp
    · have fault : ∀ v, ¬GoodValue c (tc.getD (c.sensor (s.cfg.channel k)) .openCircuit) v := hx
      have judged := judged_fault (cfg := s.cfg.channel k) (s.alarm.at (18 + k) == .inService) (s.alarm.flag (18 + k)) fault
      have whole := sensed.trans (congrArg Channel.sensed judged)
      by_cases third : c.faultRun + 1 < 3
      · rw [if_pos third] at whole
        exact ⟨congrArg (·.measured) whole, congrArg (·.lastGood) whole, congrArg (·.goodRun) whole, congrArg (·.trip) whole,
          congrArg (·.cool) whole, fun _ => ⟨congrArg (·.faultRun) whole, congrArg (·.refd) whole,
            congrArg (·.secondary) whole, congrArg (·.lost) whole⟩, fun g => by omega⟩
      · rw [if_neg third] at whole
        by_cases can : c.canSwitch (s.cfg.channel k) = true
        · rw [if_pos can] at whole
          have two : c.secondary = false ∧ (s.cfg.channel k).secondary ≠ none := by
            simpa [Channel.canSwitch, Option.isSome_iff_ne_none] using can
          have good : (c.sampled tc k s).lastGood = false := congrArg (·.lastGood) whole
          refine ⟨congrArg (·.measured) whole, good, congrArg (·.goodRun) whole, congrArg (·.trip) whole,
            congrArg (·.cool) whole, fun g => by omega, fun _ => ⟨congrArg (·.faultRun) whole, congrArg (·.refd) whole,
              fun _ _ => ⟨congrArg (·.secondary) whole, congrArg (·.lost) whole, fun hm => b.switched hk ?_ good hm hp⟩,
              fun g => ?_⟩⟩
          · have := sample_fault (cfg := s.cfg.channel k) fault
            rw [if_neg third, if_pos can] at this
            exact congrArg Prod.snd this
          · rcases g with g | g
            · rw [two.1] at g; exact absurd g nofun
            · exact absurd g two.2
        · rw [if_neg can] at whole
          refine ⟨congrArg (·.measured) whole, congrArg (·.lastGood) whole, congrArg (·.goodRun) whole, congrArg (·.trip) whole,
            congrArg (·.cool) whole, fun g => by omega, fun _ => ⟨congrArg (·.faultRun) whole, congrArg (·.refd) whole,
              fun g g' => absurd ?_ can, fun _ => ⟨congrArg (·.secondary) whole, congrArg (·.lost) whole⟩⟩⟩
          simp [Channel.canSwitch, g, Option.isSome_iff_ne_none, g']
    · exact (congrArg (·.fault) sensed).trans (congrArg (·.fault) unsensed)
    · rw [mode]
      unfold modeOf
      simp only [hfn, false_or]
    · have governed : c.governed tc k s = (c.modeSampled tc k s).govern (s.cfg.channel k) s.cfg.guardStep (some g) := by
        unfold Channel.governed; rw [hg]
      obtain ⟨gset, ggov, -⟩ := govern_settleSide (cfg := s.cfg.channel k) s.cfg.guardStep (some g) (c.modeSampled tc k s)
      rw [← governed] at gset ggov
      exact ⟨dgov.trans ggov, dset.trans gset, didle.trans (by rw [governed]; exact govern_idle_some ..)⟩
    · have governed : c.governed tc k s = (c.modeSampled tc k s).govern (s.cfg.channel k) s.cfg.guardStep none := by
        unfold Channel.governed; rw [hg]
      obtain ⟨gset, ggov, -⟩ := govern_settleSide (cfg := s.cfg.channel k) s.cfg.guardStep none (c.modeSampled tc k s)
      obtain ⟨-, -, -, -, eset, eidle, -⟩ := enterMode_settleSide
        (modeOf s.loader.station (s.cfg.channel k).fn (c.judgedIn tc k s)) (c.judgedIn tc k s)
      have mset : (c.modeSampled tc k s).setpoint = c.setpoint := eset.trans jset
      have midle : (c.modeSampled tc k s).idle = c.idle := eidle.trans jidle
      rw [← governed] at gset ggov
      rw [candidate_none, mset, midle] at gset
      refine ⟨dgov.trans ggov, dset.trans gset, didle.trans ?_⟩
      rw [governed, govern_idle_none, midle]
    · intro holds restarted began heldLoss before held' armed guarded lost settles
      have hh : ∀ m, holds m = m.holds := fun m => (holds_iff m).symm
      have hr : restarted = ((c.governed tc k s).setpoint != c.setpoint) := by simp only [restarted, dset]
      have hb : began = ((c.governed tc k s).mode.holds && !c.mode.holds) := by simp only [began, hh, dmode]
      have hbefore : before = (c.governed tc k s).det := by rw [gdet, ← hr, ← hb]; rfl
      have hheld : held' = (c.governed tc k s).heldFlag := by rw [gheld, ← hr, ← hb]
      have harmed : armed = (c.governed tc k s).armed := by rw [garmed, ← hr, ← hb]
      have hguarded : guarded = (c.governed tc k s).guarded := by rw [gguarded, ← dset]
      have hlost : lost = (c.governed tc k s).det.lostTo ((c.governed tc k s).settle s.cfg.heatDet).det := by
        simp only [lost, hbefore, ddet]; rfl
      have hsettles : settles = ((c.governed tc k s).det.phase != .settled &&
          ((c.governed tc k s).settle s.cfg.heatDet).det.phase == .settled) := by simp only [settles, hbefore, ddet]
      refine ⟨fun g => ?_, fun hg hm => ?_, fun hl => ?_, ?_⟩
      · rw [hh, dgood, dmode] at g
        rw [ddet, dheld, darmed, dguarded, settle_held g, hbefore, hheld, harmed, hguarded]
        exact ⟨rfl, rfl, rfl, rfl⟩
      · rw [hh, dmode] at hm
        rw [dgood] at hg
        obtain ⟨wdet, wheld, warmed, wguarded⟩ := settle_fed (p := s.cfg.heatDet) hg hm
        rw [ddet, dheld, darmed, dguarded, hbefore, hheld, harmed, hguarded, hlost, hsettles, dmeas, dset]
        exact ⟨wdet, wheld, warmed, wguarded⟩
      · have gmode : (c.governed tc k s).mode = modeOf s.loader.station (s.cfg.channel k).fn (c.judgedIn tc k s) :=
          (congrArg (·.mode) (atMode_govern (cfg := s.cfg.channel k) s.cfg.guardStep (governingOf s k)
            (c.modeSampled tc k s))).trans (enterMode_mode ..)
        have loss : heldLoss = true → (c.judgedIn tc k s).lossAt
            (modeOf s.loader.station (s.cfg.channel k).fn (c.judgedIn tc k s)) = true := by
          intro g
          simp only [heldLoss, hb, gmode, Bool.and_eq_true, Bool.not_eq_true'] at g
          obtain ⟨⟨on, off⟩, settled⟩ := g
          have moved : modeOf s.loader.station (s.cfg.channel k).fn (c.judgedIn tc k s) ≠ c.mode := by
            intro e; rw [e, off] at on; exact absurd on nofun
          simp only [Channel.lossAt, jmode, jdet, on, off, settled, bne_iff_ne.mpr moved, Bool.not_false, Bool.and_self]
        have unsettled : (c.sampled tc k s).det.phase ≠ .settled := by
          rcases hl with hl | ⟨-, hl⟩
          · have hbg : began = true := (Bool.and_eq_true_iff.mp hl).1
            have on : (c.governed tc k s).mode.holds = true := by
              rw [hb] at hbg; exact (Bool.and_eq_true_iff.mp hbg).1
            rw [ddet, settle_held (.inr on), ← hbefore]
            simp only [before, hbg, Bool.or_true, if_true]
            nofun
          · exact bne_iff_ne.mp (Bool.and_eq_true_iff.mp hl).2
        exact b.lost hk unsettled (hl.imp loss fun g => hlost.symm.trans g.2) hp
      · rw [duns, ddet, guns]
  · refine governingOf_record ?_
    rw [hq]
    exact findSome?_append_of_none hpre hr
  · rw [governingOf_noRecord hn, hq]
    exact findSome?_append_of_none (fun x hx => by rw [hpre x hx]; rfl) (by rw [he]; rfl)
  · rw [governingOf_noRecord hn]
    exact List.findSome?_eq_none_iff.mpr fun x hx => by rw [hn' x hx]; rfl
  · simp only [← endPoint_eq]
    exact ⟨fun ⟨p, hp, hr⟩ => recordValue_passed hp hr, recordValue_before⟩
  · rw [refValue_some hp]
    refine ⟨fun hfn => ?_, fun hfn => ?_, fun hfn => ?_⟩ <;> simp only [pageValue, hfn]
  · cases hd : (s.cfg.service n).heatDefault with
    | true => exact refHeat_of_page (if_pos hd)
    | false => exact refHeat_of_none (if_neg (by simp [hd]))

end

section
/-! Zone events (R117, R118, R120), and what a first use and an exception leave. -/
namespace Sys2Proof.Machine

/-! ### A first use (R95) -/

theorem firstUse_of_none {t : Tag} {s : State} (h : findRecord t s.board.queue = none) : firstUse t s = s := by
  unfold firstUse; rw [h]

/-- A first use writes the store, the boards and the alarm sets. -/
theorem firstUse_eq (t : Tag) (s : State) : ∃ st b a, firstUse t s = { s with recipe := st, board := b, alarm := a } := by
  unfold firstUse
  split
  · exact ⟨s.recipe, s.board, s.alarm, rfl⟩
  · split
    · exact ⟨_, _, _, rfl⟩
    · exact ⟨s.recipe, s.board, s.alarm, rfl⟩

section
variable (t : Tag) (s : State)

@[simp] theorem firstUse_heat : (firstUse t s).heat = s.heat := by obtain ⟨_, _, _, e⟩ := firstUse_eq t s; rw [e]
@[simp] theorem firstUse_pos : (firstUse t s).pos = s.pos := by obtain ⟨_, _, _, e⟩ := firstUse_eq t s; rw [e]
@[simp] theorem firstUse_flux : (firstUse t s).flux = s.flux := by obtain ⟨_, _, _, e⟩ := firstUse_eq t s; rw [e]
@[simp] theorem firstUse_pot : (firstUse t s).pot = s.pot := by obtain ⟨_, _, _, e⟩ := firstUse_eq t s; rw [e]
@[simp] theorem firstUse_fume : (firstUse t s).fume = s.fume := by obtain ⟨_, _, _, e⟩ := firstUse_eq t s; rw [e]
@[simp] theorem firstUse_loader : (firstUse t s).loader = s.loader := by obtain ⟨_, _, _, e⟩ := firstUse_eq t s; rw [e]
@[simp] theorem firstUse_link : (firstUse t s).link = s.link := by obtain ⟨_, _, _, e⟩ := firstUse_eq t s; rw [e]
@[simp] theorem firstUse_cfg : (firstUse t s).cfg = s.cfg := by simp [State.cfg]
@[simp] theorem firstUse_me : (firstUse t s).me = s.me := by simp [State.me]

end

/-- A first use of a board adds at most one exception. -/
theorem findRecord_firstUse {t : Tag} {s : State} {r : BoardRecord} (h : findRecord t s.board.queue = some r) :
    ∃ x, findRecord t (firstUse t s).board.queue = some x ∧ x.exceptions.length ≤ r.exceptions.length + 1 := by
  rw [firstUse_of_find h]
  split
  · have mapped : findRecord t (mapRecord t (fun r => { r with ref := .default }) (releaseRef r.ref s)).board.queue =
        some { r with ref := .default } := findRecord_mapRecord (s := releaseRef r.ref s) (fun _ => rfl) h
    exact ⟨_, findRecord_addException _ _ mapped, length_addException_le ..⟩
  · exact ⟨r, h, Nat.le_succ _⟩

/-! ### Exceptions -/

/-- With room an exception asked for joins those there, and nothing else does (R53). -/
theorem mem_addException_iff {e x : BoardException} {r : BoardRecord} (h : r.exceptions.length < 6) :
    x ∈ (r.addException e).exceptions ↔ x ∈ r.exceptions ∨ x = e := by
  unfold BoardRecord.addException
  split
  · rename_i hm
    refine ⟨.inl, fun g => g.elim (fun g => g) fun g => ?_⟩
    rw [g]; simpa using hm
  · simp [or_comm]

theorem addException_ref (e : BoardException) (r : BoardRecord) : (r.addException e).ref = r.ref := by
  unfold BoardRecord.addException
  split
  · rfl
  · split <;> rfl

theorem addException_volume (e : BoardException) (r : BoardRecord) : (r.addException e).volume = r.volume := by
  unfold BoardRecord.addException
  split
  · rfl
  · split <;> rfl

/-! ### PROFILE (R120) -/

theorem profiling_congr {t : Tag} {s u : State} (hq : (findRecord t u.board.queue).map (·.ref) = (findRecord t s.board.queue).map (·.ref))
    (hc : u.cfg = s.cfg) : profiling t u = profiling t s := by
  unfold profiling
  cases hu : findRecord t u.board.queue <;> cases hs : findRecord t s.board.queue <;> rw [hu, hs] at hq
  · exact absurd hq nofun
  · exact absurd hq nofun
  · simp only [Option.map_some, Option.some.injEq] at hq
    simp only [hq, hc]

/-- A profiling board has a service reference, which needs no first use. -/
theorem firstUse_of_profiling {t : Tag} {s : State} (h : profiling t s = true) : firstUse t s = s := by
  unfold profiling at h
  cases hr : findRecord t s.board.queue with
  | none => exact firstUse_of_none hr
  | some r =>
    rw [hr] at h
    rw [firstUse_of_find hr, if_neg]
    cases hf : r.ref with
    | service n => nofun
    | entry i => simp [hf] at h
    | default => simp [hf] at h
    | unentered c => simp [hf] at h

/-- A profiling board's event, room given, queues PROFILE. -/
theorem profileEvent_waits {t : Tag} {enter : Bool} {z : Nat} {s : State} (hp : profiling t s = true)
    (hz : s.cfg.zoneChannels z ≠ []) (hq : s.link.queue.length < 12) :
    Waits (profileEvent t enter z s) (toStation s.cfg.panel) (.profile ⟨t, enter, z, (s.cfg.zone z).machine, s.pos.counter,
      (s.cfg.zoneChannels z).map (profileChannel s)⟩) := by
  unfold profileEvent
  rw [if_pos (by simp [hp, hz])]
  exact waits_enqueue rfl hq

theorem profileEvent_heat (t : Tag) (enter : Bool) (z : Nat) (s : State) : (profileEvent t enter z s).heat = s.heat := by
  unfold profileEvent
  split
  · exact enqueue_heat ..
  · rfl

theorem profileEvent_board (t : Tag) (enter : Bool) (z : Nat) (s : State) : (profileEvent t enter z s).board = s.board := by
  unfold profileEvent
  split
  · exact enqueue_board ..
  · rfl

/-! ### Zone notes (R117, R118) -/

/-- The note of a zone event (R117). -/
def noteAt (t : Tag) (z : Nat) (s : State) : ZoneNote := ⟨t, z, (s.cfg.zoneChannels z).map (noteOf s)⟩

/-- The state of a ZONE ENTER once its note is taken. -/
def noted (t : Tag) (z : Nat) (s : State) : State :=
  { firstUse t s with heat := { s.heat with notes := (s.heat.notes.filter fun n => !n.is t z) ++ [noteAt t z s] } }

theorem zoneEnter_eq {t : Tag} {z : Nat} {s : State} (h : s.cfg.zoneChannels z ≠ []) :
    zoneEnter t z s = profileEvent t true z (noted t z s) := by
  have note : noteOf (firstUse t s) = noteOf s := by
    funext k; simp only [noteOf, channel, firstUse_heat]
  unfold zoneEnter noted noteAt
  rw [if_neg (by simpa using h)]
  simp only [note, firstUse_cfg, firstUse_heat]

theorem zoneLeave_noted {t : Tag} {z : Nat} {s : State} {n : ZoneNote} (h : s.heat.notes.find? (ZoneNote.is t z) = some n) :
    zoneLeave t z s = profileEvent t false z (judgeNote t z n s) := by
  unfold zoneLeave; rw [h]

theorem zoneLeave_unnoted {t : Tag} {z : Nat} {s : State} (h : s.heat.notes.find? (ZoneNote.is t z) = none) :
    zoneLeave t z s = profileEvent t false z s := by
  unfold zoneLeave; rw [h]

/-- The exceptions that a ZONE LEAVE asks for (R118). -/
def judgedRecord (z : Nat) (n : ZoneNote) (s : State) (b : BoardRecord) : BoardRecord :=
  let b1 := if n.channels.any (disturbed s) then b.addException ⟨xZoneDisturbed, (s.cfg.zone z).machine, s.me⟩ else b
  if n.channels.any (powerCut s) then b1.addException ⟨xPowerLimited, (s.cfg.zone z).machine, s.me⟩ else b1

theorem findRecord_judgeNote {t : Tag} {z : Nat} {n : ZoneNote} {s : State} {b : BoardRecord}
    (h : findRecord t s.board.queue = some b) : findRecord t (judgeNote t z n s).board.queue = some (judgedRecord z n s b) := by
  have both := findRecord_addException xPowerLimited (s.cfg.zone z).machine
    (findRecord_addException xZoneDisturbed (s.cfg.zone z).machine h)
  unfold judgeNote judgedRecord
  simp only []
  split <;> split
  · exact both
  · exact findRecord_addException _ _ h
  · exact findRecord_addException _ _ h
  · exact h

theorem judgeNote_eq (t : Tag) (z : Nat) (n : ZoneNote) (s : State) : ∃ q, judgeNote t z n s = { s with
    board := { s.board with queue := q }, heat := { s.heat with notes := s.heat.notes.filter fun m => !m.is t z } } := by
  unfold judgeNote
  simp only []
  split <;> split
  · exact ⟨_, rfl⟩
  · exact ⟨_, rfl⟩
  · exact ⟨_, rfl⟩
  · exact ⟨s.board.queue, rfl⟩

theorem any_disturbed_iff {l : List NoteChannel} {s : State} : l.any (disturbed s) = true ↔
    ∃ k ∈ l, ∃ c, channel s k.ch = some c ∧ (c.unsettled ≠ k.unsettled ∨ k.heldFlag = false) := by
  rw [List.any_eq_true]
  refine exists_congr fun k => and_congr Iff.rfl ?_
  unfold disturbed
  cases channel s k.ch <;> simp

theorem any_powerCut_iff {l : List NoteChannel} {s : State} : l.any (powerCut s) = true ↔
    ∃ k ∈ l, ∃ c, channel s k.ch = some c ∧ c.limited ≠ k.limited := by
  rw [List.any_eq_true]
  refine exists_congr fun k => and_congr Iff.rfl ?_
  unfold powerCut
  cases channel s k.ch <;> simp

/-- With room for both, a judged board has the exceptions that its note asks for, and no other new one. -/
theorem mem_judgedRecord {z : Nat} {n : ZoneNote} {s : State} {b : BoardRecord} (hl : b.exceptions.length ≤ 4)
    (x : BoardException) : x ∈ (judgedRecord z n s b).exceptions ↔ x ∈ b.exceptions ∨
      (n.channels.any (disturbed s) = true ∧ x = ⟨xZoneDisturbed, (s.cfg.zone z).machine, s.me⟩) ∨
      (n.channels.any (powerCut s) = true ∧ x = ⟨xPowerLimited, (s.cfg.zone z).machine, s.me⟩) := by
  have five := length_addException_le ⟨xZoneDisturbed, (s.cfg.zone z).machine, s.me⟩ b
  unfold judgedRecord
  simp only []
  cases n.channels.any (disturbed s) <;> cases n.channels.any (powerCut s)
  · simp
  · simp [mem_addException_iff (show b.exceptions.length < 6 by omega)]
  · simp [mem_addException_iff (show b.exceptions.length < 6 by omega)]
  · simp only [if_true, true_and]
    rw [mem_addException_iff (by omega), mem_addException_iff (by omega), or_assoc]

end Sys2Proof.Machine
end

section
open Sys2Proof Sys2Proof.Machine

/-- Settles O41. -/
theorem zoneEventsNoteAndJudge : Obligations.ZoneEventsNoteAndJudge := by
  refine ⟨fun t z s hz => ?_, fun t z s hz => ?_, fun t z s hn => ?_, fun t z s n b hn hb hl => ?_,
    fun t z enter s hp hz hq => ?_⟩
  · unfold zoneEnter
    exact if_pos (by simp [hz])
  · rw [zoneEnter_eq hz]
    simp only [profileEvent_heat]
    refine ⟨rfl, noteAt t z s, rfl, rfl, rfl, ?_, fun k c hk hc => List.mem_map.mpr ⟨k, hk, ?_⟩⟩
    · simp only [noteAt, List.map_map]
      refine (List.map_congr_left fun k _ => ?_).trans (List.map_id _)
      simp only [Function.comp, noteOf]
      split <;> rfl
    · unfold noteOf; rw [hc]
  · rw [zoneLeave_unnoted hn]
    exact ⟨profileEvent_board .., profileEvent_heat ..⟩
  · rw [zoneLeave_noted hn]
    simp only [profileEvent_heat, profileEvent_board]
    refine ⟨?_, _, findRecord_judgeNote hb, ?_, ?_⟩
    · obtain ⟨_, e⟩ := judgeNote_eq t z n s
      rw [e]; rfl
    · rw [mem_judgedRecord hl, any_disturbed_iff]
      simp [xZoneDisturbed, xPowerLimited]
    · rw [mem_judgedRecord hl, any_powerCut_iff]
      simp [xZoneDisturbed, xPowerLimited]
  · cases enter with
    | true =>
      simp only [if_true, zoneEnter_eq hz]
      have first := firstUse_of_profiling hp
      have waits := profileEvent_waits (t := t) (enter := true) (z := z) (s := noted t z s)
      unfold noted at waits ⊢
      rw [first] at waits ⊢
      exact waits hp hz hq
    | false =>
      simp only [Bool.false_eq_true, if_false]
      cases hn : s.heat.notes.find? (ZoneNote.is t z) with
      | none => rw [zoneLeave_unnoted hn]; exact profileEvent_waits hp hz hq
      | some n =>
        rw [zoneLeave_noted hn]
        have stays : profiling t (judgeNote t z n s) = profiling t s := by
          obtain ⟨_, e⟩ := judgeNote_eq t z n s
          refine profiling_congr ?_ (by rw [e]; rfl)
          cases hr : findRecord t s.board.queue with
          | none => simp [profiling, hr] at hp
          | some b =>
            rw [findRecord_judgeNote hr]
            simp only [Option.map_some, judgedRecord]
            split <;> split <;> simp only [addException_ref]
        have waits := profileEvent_waits (t := t) (enter := false) (z := z) (s := judgeNote t z n s) (stays.trans hp)
        obtain ⟨_, e⟩ := judgeNote_eq t z n s
        rw [e] at waits ⊢
        exact waits hz hq

end

section
/-! Metering a series, and the flux timers and switches (R144, R148 to R153). -/
namespace Sys2Proof.Machine

/-! ### Metering (R149, R150, R152) -/

/-- The board's record after its series is metered (R149, R150). -/
def meteredRecord (r : Series) (me : Nat) (b : BoardRecord) : BoardRecord :=
  let b1 := if 0 < r.fired then { b with volume := some r.flow } else b.addException ⟨xFluxSkipped, 0, me⟩
  if r.starved then b1.addException ⟨xFluxStarved, 0, me⟩ else b1

section
variable {s : State} {r : Series} (h : s.flux.series = some r)
include h

/-- What metering writes: the boards, the required flow, the series and its count, and FLUX SUPPLY. -/
theorem meterSeries_eq : ∃ q f e, meterSeries s = { s with
    board := { s.board with queue := q }, fume := f, expiries := e
    flux := { noFlowCount s.flux r with series := none }
    alarm := if s.flux.noFlow = 2 ∧ (noFlowCount s.flux r).noFlow = 3 then s.alarm.appear s.cfg aFluxSupply else s.alarm } := by
  unfold meterSeries
  rw [h]
  simp only []
  have first : ∃ q f e, (if 0 < r.fired then
      formRequired (mapRecord r.tag (fun b => { b with volume := some r.flow }) s)
      else addException r.tag xFluxSkipped 0 s) = { s with board := { s.board with queue := q }, fume := f, expiries := e } := by
    split
    · obtain ⟨f, e, eq⟩ := formRequired_eq (mapRecord r.tag (fun b => { b with volume := some r.flow }) s)
      rw [eq]; exact ⟨_, f, e, rfl⟩
    · exact ⟨_, s.fume, s.expiries, rfl⟩
  obtain ⟨q, f, e, eq⟩ := first
  rw [eq]
  have second : ∃ q', (if r.starved then addException r.tag xFluxStarved 0
      { s with board := { s.board with queue := q }, fume := f, expiries := e }
      else { s with board := { s.board with queue := q }, fume := f, expiries := e }) =
      { s with board := { s.board with queue := q' }, fume := f, expiries := e } := by
    split
    · exact ⟨_, rfl⟩
    · exact ⟨q, rfl⟩
  obtain ⟨q', eq'⟩ := second
  rw [eq']
  refine ⟨q', f, e, ?_⟩
  split
  · rfl
  · rfl

theorem meterSeries_flux : (meterSeries s).flux = { noFlowCount s.flux r with series := none } := by
  obtain ⟨_, _, _, e⟩ := meterSeries_eq h; rw [e]

theorem meterSeries_alarm : (meterSeries s).alarm =
    if s.flux.noFlow = 2 ∧ (noFlowCount s.flux r).noFlow = 3 then s.alarm.appear s.cfg aFluxSupply else s.alarm := by
  obtain ⟨_, _, _, e⟩ := meterSeries_eq h; rw [e]

theorem meterSeries_pos : (meterSeries s).pos = s.pos := by
  obtain ⟨_, _, _, e⟩ := meterSeries_eq h; rw [e]

theorem findRecord_meterSeries {b : BoardRecord} (hb : findRecord r.tag s.board.queue = some b) :
    findRecord r.tag (meterSeries s).board.queue = some (meteredRecord r s.me b) := by
  have first : findRecord r.tag (if 0 < r.fired then
      formRequired (mapRecord r.tag (fun b => { b with volume := some r.flow }) s)
      else addException r.tag xFluxSkipped 0 s).board.queue =
      some (if 0 < r.fired then { b with volume := some r.flow } else b.addException ⟨xFluxSkipped, 0, s.me⟩) := by
    split
    · rw [formRequired_board]
      exact findRecord_mapRecord (fun _ => rfl) hb
    · exact findRecord_addException xFluxSkipped 0 hb
  have me : (if 0 < r.fired then formRequired (mapRecord r.tag (fun b => { b with volume := some r.flow }) s)
      else addException r.tag xFluxSkipped 0 s).me = s.me := by
    unfold State.me
    split
    · rw [formRequired_loader]; rfl
    · rfl
  have board : (meterSeries s).board = (if r.starved then addException r.tag xFluxStarved 0 (if 0 < r.fired then
      formRequired (mapRecord r.tag (fun b => { b with volume := some r.flow }) s)
      else addException r.tag xFluxSkipped 0 s) else (if 0 < r.fired then
      formRequired (mapRecord r.tag (fun b => { b with volume := some r.flow }) s)
      else addException r.tag xFluxSkipped 0 s)).board := by
    have reported (p : Prop) [Decidable p] (x : State) : (if p then appearance aFluxSupply x else x).board = x.board := by
      split
      · rfl
      · rfl
    conv => lhs; unfold meterSeries
    rw [h]
    exact reported _ _
  rw [board]
  unfold meteredRecord
  split
  · rw [findRecord_addException _ _ first, me]
  · exact first

end

theorem starved_iff {r : Series} : r.starved = true ↔
    0 < r.fired ∧ r.flow * 100 < r.fired * nozzleCount r.mask * r.nominal * (100 - r.tolerance) := by
  unfold Series.starved
  rw [Bool.and_eq_true, decide_eq_true_iff, decide_eq_true_iff]
  rfl

/-! ### Closed nozzles through the end of a command -/

theorem nozzle_closeSeries {s : State} (h : s.flux.nozzle = none) : (closeSeries s).flux.nozzle = none := by
  unfold closeSeries
  split
  · exact h
  · split
    · exact h
    · rfl

theorem nozzle_removeRecord (t : Tag) {s : State} (h : s.flux.nozzle = none) : (removeRecord t s).flux.nozzle = none := by
  unfold removeRecord
  split
  · exact h
  · simp only [formRequired_flux, potRemoval_flux]
    unfold fluxRemoval
    simp only []
    split
    · split
      · exact nozzle_closeSeries (s := releaseRef _ _) h
      · exact h
    · exact h

theorem nozzle_removeWithExit (t : Tag) (c : ExitCause) {s : State} (h : s.flux.nozzle = none) :
    (removeWithExit t c s).flux.nozzle = none := by
  unfold removeWithExit
  split
  · exact h
  · rw [enqueue_flux]; exact nozzle_removeRecord t h

theorem nozzle_answerOffer (t : Tag) (a : Answer) {s : State} (h : s.flux.nozzle = none) :
    (answerOffer t a s).flux.nozzle = none := by
  by_cases hb : s.board.handoff.bound = some t
  · have taken : (answered a s).flux.nozzle = none := h
    cases a with
    | accept =>
      rw [answerOffer_accept hb]
      split
      · exact nozzle_removeRecord t taken
      · exact taken
    | refuse => rw [answerOffer_refuse hb]; exact nozzle_removeWithExit t _ taken
    | defer =>
      rw [answerOffer_unaccepted hb (.inl rfl)]
      split
      · exact nozzle_removeWithExit t _ taken
      · exact taken
    | none =>
      rw [answerOffer_unaccepted hb (.inr rfl)]
      split
      · exact nozzle_removeWithExit t _ taken
      · exact taken
  · rw [answerOffer_unbound a hb]; exact h

theorem nozzle_deliverDropped {s : State} (h : s.flux.nozzle = none) : (deliverDropped s).flux.nozzle = none := by
  have fold : ∀ (l : List Tag) (x : State), x.flux.nozzle = none →
      (l.foldl (fun s t => answerOffer t .none s) x).flux.nozzle = none := by
    intro l
    induction l with
    | nil => exact fun _ h => h
    | cons t ts ih => exact fun x h => ih _ (nozzle_answerOffer t _ h)
  exact fold _ _ h

/-- Nozzles that are closed stay closed through the end of a command. -/
theorem nozzle_finish {s : State} (h : s.flux.nozzle = none) : (finish s).flux.nozzle = none :=
  finish_induction (P := fun t => t.flux.nozzle = none) (fun _ => nozzle_deliverDropped)
    (fun c t ht => (congrArg (·.flux.nozzle) (offAlarm_reportCode c t)).trans ht)
    (fun c t _ ht => (congrArg (·.flux.nozzle) (offAlarm_announcePick c t)).trans ht) h

theorem nozzlesOpen_of_none {s : State} (h : s.flux.nozzle = none) : nozzlesOpen s = 0 := by
  unfold nozzlesOpen; rw [h]

/-! ### Tank switches (R153) -/

theorem tankOf_setTank (w : TankSwitch) (x : Tank) (s : State) : tankOf w (setTank w x s) = x := by cases w <;> rfl

theorem tankOf_setTankPin (w : TankSwitch) (b : Bool) (s : State) : tankOf w (setTankPin w b s) = tankOf w s := by
  cases w <;> rfl

theorem tankOf_finish (w : TankSwitch) (s : State) : tankOf w (finish s) = tankOf w s := by
  cases w
  · exact finish_tankLow s
  · exact finish_tankEmpty s

theorem tankOf_tankTaken (w : TankSwitch) (s : State) : tankOf w (tankTaken w s) = (tankOf w s).takeLevel := by
  have set := tankOf_setTank w (tankOf w s).takeLevel s
  unfold tankTaken
  simp only []
  split
  · exact (show tankOf w (cutPulse (setTank w (tankOf w s).takeLevel s)) = _ by cases w <;> exact set)
  · exact set

end Sys2Proof.Machine
end

section
open Sys2Proof Sys2Proof.Machine

/-- Settles O45. -/
theorem meteringWritesTheVolume : Obligations.MeteringWritesTheVolume := by
  refine ⟨fun s r b h hb => ?_, fun s r h => ?_⟩
  · have found := findRecord_meterSeries h hb
    have whole : meteredRecord r s.me b = if r.fired = 0 then b.addException ⟨6, 0, s.me⟩
        else if r.flow * 100 < r.fired * nozzleCount r.mask * r.nominal * (100 - r.tolerance) then
          BoardRecord.addException ⟨8, 0, s.me⟩ { b with volume := some r.flow }
        else { b with volume := some r.flow } := by
      unfold meteredRecord
      simp only []
      by_cases hf : r.fired = 0
      · rw [if_neg (fun g => by have := (starved_iff.mp g).1; omega), if_neg (by omega), if_pos hf]; rfl
      · rw [if_pos (show 0 < r.fired by omega), if_neg hf]
        exact ite_of_iff (starved_iff.trans (and_iff_right (by omega))) rfl rfl
    refine ⟨by rw [meterSeries_flux h], fun hf => ⟨_, found, ?_, fun hs hl => ?_⟩, fun hf => ⟨_, found, ?_, fun hl => ?_⟩,
      by rw [found, whole]⟩
    · rw [whole, if_neg (by omega)]
      split
      · exact addException_volume ..
      · rfl
    · rw [whole, if_neg (by omega), if_pos hs]
      exact mem_addException hl
    · rw [whole, if_pos hf]; exact addException_volume ..
    · rw [whole, if_pos hf]; exact mem_addException hl
  · have count : noFlowCount s.flux r = if r.fired = 0 ∨ r.fired * nozzleCount r.mask * r.nominal = 0 then s.flux
      else if r.flow = 0 then { s.flux with noFlow := min 3 (s.flux.noFlow + 1), supplyOk := false }
      else { s.flux with noFlow := 0, supplyOk := true } := rfl
    simp only [meterSeries_flux h, meterSeries_alarm h, count]
    refine ⟨fun hn => ?_, fun hf he hz => ?_, fun hf he hz => ?_, fun hn => if_neg ?_⟩
    · rw [if_pos hn]; exact ⟨rfl, rfl⟩
    · rw [if_neg (by omega), if_pos hz]
      refine ⟨rfl, rfl, fun h2 hp hm => ?_⟩
      rw [if_pos ⟨h2, by simp [h2]⟩]
      exact AlarmUnit.standing_appear (hp.symm ▸ (by decide : 39 < 64)) (hm.imp (fun g => g) .inr)
    · rw [if_neg (by omega), if_neg (by omega)]; exact ⟨rfl, rfl⟩
    · rintro ⟨h2, h3⟩
      split at h3
      · omega
      · split at h3
        · omega
        · exact absurd h3 (by simp)

/-- Settles O44. -/
theorem fluxTimersAndTankSwitches : Obligations.FluxTimersAndTankSwitches := by
  have changed (w : TankSwitch) (b : Bool) (s : State) (ha : fluxActs s = true) : exec (.tankSwitchChange w b) s =
      .next (setTank w ((tankOf w s).seen b) (setTankPin w b s)) := by
    simp only [exec, execTankSwitchChange, ha, if_true, tankOf_setTankPin]
  refine ⟨⟨fun s ha => ⟨cutPulse s, ?_, nozzlesOpen_of_none rfl, rfl⟩, fun s r n ha hs hd => ?_⟩, fun w b s ha ht => ⟨_, changed w b s ha, ?_⟩,
    fun w b s ha ht => ⟨_, changed w b s ha, ?_⟩, fun w b n s ha ht => ⟨finish (tankTaken w s), ?_, ?_, fun hw hb => ?_⟩⟩
  · simp only [exec, execNozzlePulseEnd, ha, if_true]
  · simp only [exec, execDrainTimerExpiry, draining, ha, hs, hd, Option.isSome_some, Bool.and_self, if_true]
  · rw [tankOf_setTank, Tank.seen, if_pos ht, ht]
  · rw [tankOf_setTank, Tank.seen, if_neg (by rw [ht]; cases b <;> nofun)]
    revert ht
    obtain ⟨taken, hold⟩ := tankOf w s
    rintro rfl
    cases hold <;> rfl
  · simp only [exec, execTankSwitchTaken, ha, ht, Option.isSome_some, Bool.and_self, if_true]
  · rw [tankOf_finish, tankOf_tankTaken, ht]; rfl
  · subst hw hb
    have emptied : (tankTaken .empty s).flux.nozzle = none := by
      have before : tankEmpty s = false := by
        simp only [tankEmpty, show s.flux.empty = ⟨some false, some n⟩ from ht]; rfl
      have after : tankEmpty (setTank .empty (tankOf .empty s).takeLevel s) = true := by
        rw [ht]; rfl
      unfold tankTaken
      simp only [before, after, Bool.not_false, Bool.and_self, if_true]
      rfl
    exact nozzlesOpen_of_none (nozzle_finish emptied)

end

section
/-! Flux events: FLUX START, strokes and FLUX END (R141 to R147). -/
namespace Sys2Proof.Machine

/-! ### Records of any tag under a change of one -/

/-- A change of one record leaves every record of its tag findable. -/
theorem findRecord_changed {t b : Tag} {f : BoardRecord → BoardRecord} {q : List BoardRecord} {r : BoardRecord}
    (hf : ∀ r, (f r).tag = r.tag) (h : findRecord b q = some r) : ∃ x, findRecord b (updateRecord t f q) = some x := by
  have tags : ∀ r : BoardRecord, (if r.tag == t then f r else r).tag = r.tag := by
    intro r; split
    · exact hf r
    · rfl
  exact ⟨_, by rw [updateRecord, findRecord_map tags, h]; rfl⟩

theorem findRecord_firstUse_other {t b : Tag} {s : State} {r : BoardRecord} (h : findRecord b s.board.queue = some r) :
    ∃ x, findRecord b (firstUse t s).board.queue = some x := by
  unfold firstUse
  split
  · exact ⟨r, h⟩
  · split
    · obtain ⟨x, hx⟩ := findRecord_changed (t := t) (f := fun r => { r with ref := .default }) (fun _ => rfl) h
      exact findRecord_changed (fun _ => addException_tag ..) hx
    · exact ⟨r, h⟩

/-! ### Series -/

theorem serviceBoard_firstUse (t : Tag) (s : State) : serviceBoard t (firstUse t s) = serviceBoard t s := by
  cases h : findRecord t s.board.queue with
  | none => rw [firstUse_of_none h]
  | some r =>
    rw [firstUse_of_find h]
    split
    · rename_i hf
      have mapped : findRecord t (mapRecord t (fun r => { r with ref := .default }) (releaseRef r.ref s)).board.queue =
          some { r with ref := .default } := findRecord_mapRecord (s := releaseRef r.ref s) (fun _ => rfl) h
      have found : findRecord t (appearance aBoardDefaulted (addException t xRecipeDefaulted 0
          (mapRecord t (fun r => { r with ref := .default }) (releaseRef r.ref s)))).board.queue = _ :=
        findRecord_addException _ _ mapped
      unfold serviceBoard
      rw [found, h]
      simp only [addException_ref]
      cases hr : r.ref with
      | service n => rw [hr] at hf; exact absurd hf nofun
      | entry i => rfl
      | default => rfl
      | unentered c => rfl
    · rfl

theorem proven_congr {s t : State} (hf : t.fume = s.fume) (hl : t.loader = s.loader) : proven t = proven s := by
  unfold proven State.cfg
  rw [hf, hl]

theorem proven_firstUse (t : Tag) (s : State) : proven (firstUse t s) = proven s :=
  proven_congr (firstUse_fume t s) (firstUse_loader t s)

theorem tankEmpty_firstUse (t : Tag) (s : State) : tankEmpty (firstUse t s) = tankEmpty s := by
  simp only [tankEmpty, firstUse_flux]

theorem closeSeries_none {s : State} (h : s.flux.series = none) : closeSeries s = s := by
  unfold closeSeries; rw [h]

theorem closeSeries_open {s : State} {r : Series} (h : s.flux.series = some r) (hd : r.drain = none) : closeSeries s =
    { s with pos := { s.pos with schedule := withoutEntry r.tag .fluxStroke 0 s.pos.schedule }
             flux := { s.flux with series := some { r with drain := some 0 }, nozzle := none } } := by
  unfold closeSeries
  rw [h]
  exact if_neg (by simp [hd])

theorem closeSeries_draining {s : State} {r : Series} (h : s.flux.series = some r) (hd : r.drain ≠ none) : closeSeries s = s := by
  unfold closeSeries
  rw [h]
  exact if_pos (Option.isSome_iff_ne_none.mpr hd)

/-- A series closed: the boards and the series list stand, the schedule may lose its stroke. -/
theorem closeSeries_rest (s : State) : (closeSeries s).board = s.board ∧ (closeSeries s).flux.handled = s.flux.handled ∧
    (closeSeries s).pos.counter = s.pos.counter ∧ (closeSeries s).pos.schedule.length ≤ s.pos.schedule.length ∧
    (closeSeries s).loader = s.loader := by
  cases h : s.flux.series with
  | none => rw [closeSeries_none h]; exact ⟨rfl, rfl, rfl, Nat.le_refl _, rfl⟩
  | some r =>
    by_cases hd : r.drain = none
    · rw [closeSeries_open h hd]; exact ⟨rfl, rfl, rfl, List.length_filter_le .., rfl⟩
    · rw [closeSeries_draining h hd]; exact ⟨rfl, rfl, rfl, Nat.le_refl _, rfl⟩

theorem noFlowCount_handled (fl : Flux) (r : Series) : (noFlowCount fl r).handled = fl.handled := by
  unfold noFlowCount
  split
  · rfl
  · split <;> rfl

/-- A held series metered before the next opens: the series list and the counter stand, no entry joins the schedule. -/
theorem preemptSeries_rest (s : State) : (preemptSeries s).flux.handled = s.flux.handled ∧
    (preemptSeries s).pos.counter = s.pos.counter ∧ (preemptSeries s).pos.schedule.length ≤ s.pos.schedule.length := by
  obtain ⟨-, handled, counter, length, -⟩ := closeSeries_rest s
  unfold preemptSeries
  cases h : (closeSeries s).flux.series with
  | none =>
    have same : meterSeries (closeSeries s) = closeSeries s := by unfold meterSeries; rw [h]
    rw [same]; exact ⟨handled, counter, length⟩
  | some r =>
    rw [meterSeries_flux h, meterSeries_pos h]
    exact ⟨(noFlowCount_handled ..).trans handled, counter, length⟩

/-- A held series that has fired gives its board its volume before the next opens (R142). -/
theorem findRecord_preemptSeries {s : State} {r : Series} {b : BoardRecord} (h : s.flux.series = some r) (hf : 0 < r.fired)
    (hb : findRecord r.tag s.board.queue = some b) :
    ∃ x, findRecord r.tag (preemptSeries s).board.queue = some x ∧ x.volume = some r.flow := by
  obtain ⟨r', held, tag, fired, flow⟩ : ∃ r', (closeSeries s).flux.series = some r' ∧ r'.tag = r.tag ∧ r'.fired = r.fired ∧
      r'.flow = r.flow := by
    by_cases hd : r.drain = none
    · rw [closeSeries_open h hd]; exact ⟨_, rfl, rfl, rfl, rfl⟩
    · rw [closeSeries_draining h hd]; exact ⟨r, h, rfl, rfl, rfl⟩
  have found := findRecord_meterSeries held (b := b) (by rw [(closeSeries_rest s).1, tag]; exact hb)
  rw [tag] at found
  refine ⟨_, found, ?_⟩
  unfold meteredRecord
  simp only [if_pos (show 0 < r'.fired by omega), flow]
  split
  · exact addException_volume ..
  · rfl

/-! ### FLUX START (R141) -/

theorem fluxStart_handled {t : Tag} {s : State} (h : t ∈ s.flux.handled) : fluxStart t s = s := by
  unfold fluxStart
  exact if_pos (by simpa using h)

/-- FLUX START of a board that gets no series. -/
theorem fluxStart_skips {t : Tag} {s : State} (h : t ∉ s.flux.handled)
    (hn : boardFlux t (firstUse t s) = none ∨ proven s = false ∨ tankEmpty s = true) :
    fluxStart t s = skipFlux t (firstUse t s) := by
  unfold fluxStart
  rw [if_neg (by simpa using h)]
  simp only []
  cases hp : boardFlux t (firstUse t s) with
  | none => rfl
  | some p =>
    refine if_pos ?_
    rw [proven_firstUse, tankEmpty_firstUse]
    rcases hn with hn | hn | hn
    · rw [hp] at hn; exact absurd hn nofun
    · simp [hn]
    · simp [hn]

theorem fluxStart_opens {t : Tag} {s : State} {p : FluxPage} (h : t ∉ s.flux.handled) (hp : boardFlux t (firstUse t s) = some p)
    (hv : proven s = true) (he : tankEmpty s = false) : fluxStart t s = openSeries t p (firstUse t s) := by
  unfold fluxStart
  rw [if_neg (by simpa using h)]
  simp only [hp]
  exact if_neg (by rw [proven_firstUse, tankEmpty_firstUse, hv, he]; nofun)

theorem markHandled_new {t : Tag} {s : State} (h : t ∉ s.flux.handled) :
    markHandled t s = { s with flux := { s.flux with handled := s.flux.handled ++ [t] } } := by
  unfold markHandled
  exact if_neg (by simpa using h)

theorem markHandled_flux_series (t : Tag) (s : State) : (markHandled t s).flux.series = s.flux.series := by
  unfold markHandled; split <;> rfl

/-- The series of a board with its plan (R141). -/
def newSeries (t : Tag) (p : FluxPage) (s : State) : Series :=
  ⟨t, none, p.mask, p.pulse, p.nominal, p.tolerance, if serviceBoard t s then some p.pitch else none, 0, 0⟩

/-- The state with a board's series open and in the series list, before its first stroke is inserted. -/
def seriesHeld (t : Tag) (p : FluxPage) (s : State) : State :=
  markHandled t { preemptSeries s with flux := { (preemptSeries s).flux with series := some (newSeries t p s) } }

/-- With room in the schedule a series opens with its first stroke at the counter (R141). -/
theorem openSeries_eq {t : Tag} {p : FluxPage} {s : State} (h : s.pos.schedule.length < 48) :
    ∃ l, openSeries t p s = { seriesHeld t p s with pos := { (seriesHeld t p s).pos with schedule := l } } ∧
      (⟨t, .fluxStroke, 0, s.pos.counter⟩ : Event) ∈ l := by
  obtain ⟨-, counter, length⟩ := preemptSeries_rest s
  have pos : (seriesHeld t p s).pos = (preemptSeries s).pos := markHandled_pos ..
  cases hi : scheduleInsert (seriesHeld t p s).pos.counter ⟨t, .fluxStroke, 0, (seriesHeld t p s).pos.counter⟩
      (seriesHeld t p s).pos.schedule with
  | none =>
    have := (scheduleInsert_eq_none_iff.mp hi).1
    rw [pos] at this
    omega
  | some l =>
    refine ⟨l, ?_, (mem_scheduleInsert hi).mpr (.inl (by rw [pos, counter]))⟩
    have inserted := insertEvent_inserted hi
    unfold openSeries
    change (if (insertEvent t .fluxStroke 0 (seriesHeld t p s).pos.counter (seriesHeld t p s)).1 then
      (insertEvent t .fluxStroke 0 (seriesHeld t p s).pos.counter (seriesHeld t p s)).2 else _) = _
    rw [inserted]
    rfl

/-! ### Strokes (R143, R145, R147) -/

/-- A stroke fires with no pulse open, extraction proven and the tank not empty. -/
def StrokeFires (s : State) : Prop := s.flux.nozzle = none ∧ proven s = true ∧ tankEmpty s = false

theorem judgeStroke_fires {s : State} (r : Series) (h : StrokeFires s) : judgeStroke r s =
    { s with flux := { s.flux with nozzle := some 0, series := some { r with fired := min 65535 (r.fired + 1) } } } := by
  obtain ⟨hn, hp, he⟩ := h
  unfold judgeStroke
  rw [if_neg (by simp [hn]), if_neg (by simp [hp, he])]

theorem judgeStroke_pulseOpen {s : State} (r : Series) (h : s.flux.nozzle ≠ none) :
    judgeStroke r s = appearance aStrokeOverrun (addException r.tag xFluxPartial 0 s) := by
  unfold judgeStroke
  exact if_pos (Option.isSome_iff_ne_none.mpr h)

theorem judgeStroke_blocked {s : State} (r : Series) (hn : s.flux.nozzle = none) (h : ¬StrokeFires s) :
    judgeStroke r s = addException r.tag xFluxPartial 0 s := by
  unfold judgeStroke
  rw [if_neg (by simp [hn]), if_pos]
  refine Classical.byContradiction fun g => ?_
  simp only [Bool.or_eq_true, Bool.not_eq_true', not_or, Bool.not_eq_false, Bool.not_eq_true] at g
  exact h ⟨hn, g.1, g.2⟩

/-- A stroke that does not fire: FLUX PARTIAL, and STROKE OVERRUN while a pulse is open. -/
theorem judgeStroke_skipped {s : State} (r : Series) (h : ¬StrokeFires s) : ∃ a, judgeStroke r s =
    { addException r.tag xFluxPartial 0 s with alarm := a } := by
  by_cases hn : s.flux.nozzle = none
  · rw [judgeStroke_blocked r hn h]; exact ⟨s.alarm, rfl⟩
  · rw [judgeStroke_pulseOpen r hn]; exact ⟨_, rfl⟩

theorem fluxStroke_other {t : Tag} {due : Pos} {s : State} (h : ∀ r, s.flux.series = some r → r.tag ≠ t ∨ r.drain ≠ none) :
    fluxStroke t due s = s := by
  unfold fluxStroke
  cases hs : s.flux.series with
  | none => rfl
  | some r =>
    refine if_neg ?_
    rintro ⟨ht, hd⟩
    exact (h r hs).elim (fun g => g ht) fun g => g hd

theorem fluxStroke_open {t : Tag} {due : Pos} {s : State} {r : Series} (h : s.flux.series = some r) (ht : r.tag = t)
    (hd : r.drain = none) : fluxStroke t due s =
      if (insertEvent t .fluxStroke 0 (offset due (strokePitch r (judgeStroke r s))) (judgeStroke r s)).1 then
        (insertEvent t .fluxStroke 0 (offset due (strokePitch r (judgeStroke r s))) (judgeStroke r s)).2
      else closeSeries (addException t xFluxPartial 0
        (insertEvent t .fluxStroke 0 (offset due (strokePitch r (judgeStroke r s))) (judgeStroke r s)).2) := by
  unfold fluxStroke
  rw [h]
  exact if_pos ⟨ht, hd⟩

/-- A stroke judged leaves the pitch that the next one is read with. -/
theorem strokePitch_judgeStroke (r : Series) (s : State) : strokePitch r (judgeStroke r s) = strokePitch r s := by
  unfold strokePitch
  cases r.heldPitch with
  | some p => rfl
  | none =>
    simp only []
    by_cases hf : StrokeFires s
    · rw [judgeStroke_fires r hf]; rfl
    · obtain ⟨a, e⟩ := judgeStroke_skipped r hf
      rw [e]
      have page := boardPage_map (s := s) (t := { addException r.tag xFluxPartial 0 s with alarm := a })
        (g := fun x => if x.tag == r.tag then x.addException ⟨xFluxPartial, 0, s.me⟩ else x)
        (fun x => by
          split
          · exact addException_tag ..
          · rfl)
        (fun x => by
          split
          · exact addException_ref ..
          · rfl) rfl rfl rfl r.tag .flux
      unfold boardFlux
      rw [page]
      rfl

theorem sameKey_iff {t : Tag} {k : EventKind} {q : Nat} {due : Pos} {x : Event} :
    (⟨t, k, q, due⟩ : Event).sameKey x = true ↔ x.tag = t ∧ x.kind = k ∧ x.qualifier = q := by
  simp only [Event.sameKey, Bool.and_eq_true, beq_iff_eq, and_assoc]
  exact ⟨fun ⟨a, b, c⟩ => ⟨a.symm, b.symm, c.symm⟩, fun ⟨a, b, c⟩ => ⟨a.symm, b.symm, c.symm⟩⟩

/-- Where a stroke's insertion leaves the state: with the next stroke in the schedule, or closed (R143). -/
theorem fluxStroke_cases {t : Tag} {due : Pos} {s : State} {r : Series} (h : s.flux.series = some r) (ht : r.tag = t)
    (hd : r.drain = none) : let e : Event := ⟨t, .fluxStroke, 0, offset due (strokePitch r (judgeStroke r s))⟩
    (∃ l, scheduleInsert s.pos.counter e s.pos.schedule = some l ∧ e ∈ l ∧
      fluxStroke t due s = { judgeStroke r s with pos := { s.pos with schedule := l } }) ∨
    (scheduleInsert s.pos.counter e s.pos.schedule = none ∧
      fluxStroke t due s = closeSeries (addException t xFluxPartial 0 (addException t xEventLost 6 (judgeStroke r s)))) := by
  intro e
  have pos : (judgeStroke r s).pos = s.pos := by
    by_cases hf : StrokeFires s
    · rw [judgeStroke_fires r hf]
    · obtain ⟨a, e⟩ := judgeStroke_skipped r hf; rw [e]; rfl
  rw [fluxStroke_open h ht hd]
  cases hi : scheduleInsert s.pos.counter e s.pos.schedule with
  | some l =>
    refine .inl ⟨l, rfl, (mem_scheduleInsert hi).mpr (.inl rfl), ?_⟩
    have inserted := insertEvent_inserted (s := judgeStroke r s) (by rw [pos]; exact hi)
    rw [inserted, if_pos rfl, pos]
  | none =>
    have refused := insertEvent_refused (s := judgeStroke r s) (by rw [pos]; exact hi)
    exact .inr ⟨rfl, by rw [refused]; rfl⟩

/-- A stroke judged leaves the series held for its board. -/
theorem judgeStroke_series {s : State} {r : Series} (h : s.flux.series = some r) :
    ∃ x, (judgeStroke r s).flux.series = some x ∧ x.tag = r.tag ∧ x.drain = r.drain := by
  by_cases hf : StrokeFires s
  · rw [judgeStroke_fires r hf]; exact ⟨_, rfl, rfl, rfl⟩
  · obtain ⟨a, e⟩ := judgeStroke_skipped r hf; rw [e]; exact ⟨r, h, rfl, rfl⟩

/-- The record of the board whose stroke is judged. -/
theorem findRecord_judgeStroke {s : State} {r : Series} {b : BoardRecord} (h : findRecord r.tag s.board.queue = some b)
    (hl : b.exceptions.length ≤ 4) : ∃ x, findRecord r.tag (judgeStroke r s).board.queue = some x ∧
      x.exceptions.length ≤ 5 ∧ (StrokeFires s → x.exceptions.length ≤ 4) ∧
      (¬StrokeFires s → (⟨xFluxPartial, 0, s.me⟩ : BoardException) ∈ x.exceptions) := by
  by_cases hf : StrokeFires s
  · rw [judgeStroke_fires r hf]; exact ⟨b, h, by omega, fun _ => hl, fun g => absurd hf g⟩
  · obtain ⟨a, e⟩ := judgeStroke_skipped r hf
    rw [e]
    have length := length_addException_le ⟨xFluxPartial, 0, s.me⟩ b
    exact ⟨_, findRecord_addException xFluxPartial 0 h, by omega, fun g => absurd g hf, fun _ => mem_addException (by omega)⟩

theorem judgeStroke_me (r : Series) (s : State) : (judgeStroke r s).me = s.me := by
  by_cases hf : StrokeFires s
  · rw [judgeStroke_fires r hf]; rfl
  · obtain ⟨a, e⟩ := judgeStroke_skipped r hf; rw [e]; rfl

/-- The exceptions of a stroke whose successor is refused: EVENT LOST and FLUX PARTIAL (R39, R143). -/
theorem findRecord_strokeRefused {t : Tag} {s : State} {b : BoardRecord} (h : findRecord t s.board.queue = some b)
    (hl : b.exceptions.length ≤ 5) :
    ∃ x, findRecord t (closeSeries (addException t xFluxPartial 0 (addException t xEventLost 6 s))).board.queue = some x ∧
      (∀ e ∈ b.exceptions, e ∈ x.exceptions) ∧ (⟨xEventLost, 6, s.me⟩ : BoardException) ∈ x.exceptions ∧
      (b.exceptions.length ≤ 4 ∨ (⟨xFluxPartial, 0, s.me⟩ : BoardException) ∈ b.exceptions →
        (⟨xFluxPartial, 0, s.me⟩ : BoardException) ∈ x.exceptions) := by
  have lost := findRecord_addException xEventLost 6 h
  have both := findRecord_addException xFluxPartial 0 lost
  refine ⟨_, by rw [(closeSeries_rest _).1]; exact both, ?_, ?_, ?_⟩
  · exact fun e he => mem_addException_of_mem (mem_addException_of_mem he)
  · exact mem_addException_of_mem (mem_addException (by omega))
  · rintro (hs | hm)
    · exact mem_addException (by have := length_addException_le ⟨xEventLost, 6, s.me⟩ b; omega)
    · exact mem_addException_of_mem (mem_addException_of_mem hm)

/-! ### FLUX END (R146) -/

theorem openFor_iff {t : Tag} {s : State} : openFor t s = true ↔ ∃ r, s.flux.series = some r ∧ r.tag = t ∧ r.drain = none := by
  unfold openFor
  cases h : s.flux.series with
  | none => exact ⟨nofun, fun ⟨r, hr, _⟩ => nomatch hr⟩
  | some r =>
    simp only [Bool.and_eq_true, beq_iff_eq, Option.isNone_iff_eq_none]
    exact ⟨fun ⟨a, b⟩ => ⟨r, rfl, a, b⟩, fun ⟨r', hr, a, b⟩ => by obtain rfl := Option.some.inj hr; exact ⟨a, b⟩⟩

theorem fluxEnd_open {t : Tag} {s : State} {r : Series} (h : s.flux.series = some r) (ht : r.tag = t) (hd : r.drain = none) :
    fluxEnd t s = closeSeries s := by
  unfold fluxEnd
  exact if_pos (openFor_iff.mpr ⟨r, h, ht, hd⟩)

/-- A FLUX END of a board without an open series, in the series list or not. -/
theorem fluxEnd_early {t : Tag} {s : State} (h : ∀ r, s.flux.series = some r → r.tag ≠ t ∨ r.drain ≠ none) :
    fluxEnd t s = if t ∈ s.flux.handled then s else skipFlux t
      { s with pos := { s.pos with schedule := withoutEntry t .fluxStart 0 s.pos.schedule } } := by
  unfold fluxEnd
  rw [if_neg (by rw [openFor_iff]; rintro ⟨r, hr, ht, hd⟩; exact (h r hr).elim (· ht) (· hd))]
  exact ite_of_iff (by simp) rfl rfl

/-- What skipping a board does (R142, R146). -/
theorem skipFlux_eq {t : Tag} {s : State} (h : t ∉ s.flux.handled) : skipFlux t s =
    { addException t xFluxSkipped 0 s with flux := { s.flux with handled := s.flux.handled ++ [t] } } := by
  unfold skipFlux
  exact markHandled_new (s := addException t xFluxSkipped 0 s) h

theorem standing_strokeOverrun {s : State} {r : Series} (hn : s.flux.nozzle ≠ none) (hl : s.alarm.place.length = 64) :
    (judgeStroke r s).alarm.standing 42 = true := by
  rw [judgeStroke_pulseOpen r hn]
  exact AlarmUnit.standing_appear (by rw [show (addException r.tag xFluxPartial 0 s).alarm = s.alarm from rfl, hl]; decide)
    (.inr (.inl (by decide)))

end Sys2Proof.Machine
end
section
open Sys2Proof Sys2Proof.Machine

/-- Settles O42: each event by its cases; a stroke by whether it fires and whether the next one finds room. -/
theorem fluxEventsRunASeries : Obligations.FluxEventsRunASeries := by
  unfold Obligations.FluxEventsRunASeries
  refine ⟨fun t s => fluxStart_handled, fun t s hm hn => ?_, fun t s p hm hp hv he hl => ?_, fun t due s => fluxStroke_other,
    fun t due s r b hs ht hd hb hl => ?_, fun t s => ⟨fun r hs ht hd => ?_, fun hno => ⟨fun hm => ?_, fun hm => ?_⟩⟩⟩
  · have flux := firstUse_flux t s
    have eq := skipFlux_eq (t := t) (s := firstUse t s) (by rw [flux]; exact hm)
    rw [fluxStart_skips hm hn, eq]
    refine ⟨by rw [flux], firstUse_pos t s, fun b hb hl => ?_⟩
    obtain ⟨x, found, length⟩ := findRecord_firstUse hb
    refine ⟨_, findRecord_addException xFluxSkipped 0 found, ?_⟩
    rw [firstUse_me]
    exact mem_addException (by omega)
  · have flux := firstUse_flux t s
    have pos := firstUse_pos t s
    obtain ⟨l, eq, first⟩ := openSeries_eq (t := t) (p := p) (s := firstUse t s) (by rw [pos]; exact hl)
    rw [pos] at first
    rw [fluxStart_opens hm hp hv he, eq]
    refine ⟨?_, mem_handled_markHandled .., first, fun r b hr hf hb => ?_⟩
    · have series : (seriesHeld t p (firstUse t s)).flux.series = some (newSeries t p (firstUse t s)) := markHandled_flux_series ..
      refine series.trans ?_
      unfold newSeries
      rw [serviceBoard_firstUse]
    · obtain ⟨y, hy⟩ := findRecord_firstUse_other (t := t) hb
      have volume := findRecord_preemptSeries (s := firstUse t s) (by rw [flux]; exact hr) hf hy
      have board : (seriesHeld t p (firstUse t s)).board = (preemptSeries (firstUse t s)).board := markHandled_board ..
      rw [← board] at volume
      exact volume
  · subst ht
    obtain ⟨j, found, length, short, partly⟩ := findRecord_judgeStroke hb hl
    obtain ⟨y, series, tag, open'⟩ := judgeStroke_series hs
    have me := judgeStroke_me r s
    have pitch := strokePitch_judgeStroke r s
    have stroke := fluxStroke_cases (due := due) hs rfl hd
    simp only [] at stroke
    obtain ⟨l, fits, next, eq⟩ | ⟨full, eq⟩ := stroke
    · rw [eq]
      refine ⟨fun hf => ⟨j, found, partly hf⟩, standing_strokeOverrun, fun _ => ⟨fun hf => ?_, fun hf => ?_, ?_⟩, fun h48 hk => ?_⟩
      · rw [judgeStroke_fires r hf]
      · obtain ⟨a, e⟩ := judgeStroke_skipped r hf; rw [e]; rfl
      · rw [pitch] at next; exact next
      · have full := (scheduleInsert_eq_none_iff (c := s.pos.counter)
          (e := ⟨r.tag, .fluxStroke, 0, offset due (strokePitch r (judgeStroke r s))⟩)).mpr
            ⟨h48, fun x hx => Bool.eq_false_iff.mpr fun same => hk x hx (sameKey_iff.mp same)⟩
        rw [full] at fits
        exact absurd fits nofun
    · have room := (scheduleInsert_eq_none_iff.mp full).1
      obtain ⟨x, found', keeps, lost, partly2⟩ := findRecord_strokeRefused found (by omega)
      have closed := closeSeries_open (s := addException r.tag xFluxPartial 0 (addException r.tag xEventLost 6 (judgeStroke r s)))
        series (open'.trans hd)
      rw [me] at lost partly2
      have partly' : (⟨xFluxPartial, 0, s.me⟩ : BoardException) ∈ x.exceptions := partly2 (by
        by_cases hf : StrokeFires s
        · exact .inl (short hf)
        · exact .inr (partly hf))
      rw [eq]
      refine ⟨fun hf => ⟨x, found', partly'⟩, fun hn ha => ?_, fun _ => by omega, fun _ _ => ⟨?_, ?_, x, found', lost, partly'⟩⟩
      · rw [closed]; exact standing_strokeOverrun hn ha
      · rw [closed]
      · rw [closed]; exact ⟨_, rfl, tag, rfl⟩
  · rw [fluxEnd_open hs ht hd, closeSeries_open hs hd, ht]
    exact ⟨rfl, rfl, rfl⟩
  · rw [fluxEnd_early hno]; exact if_pos hm
  · rw [fluxEnd_early hno, if_neg hm, skipFlux_eq (by exact hm)]
    exact ⟨rfl, rfl, fun b hb hl => ⟨_, findRecord_addException xFluxSkipped 0 hb, mem_addException hl⟩⟩
end

section
/-! Wave events and the pumps (R155 to R161). -/
namespace Sys2Proof.Machine

theorem pumpsAboveIdle_touchPumps (s : State) : pumpsAboveIdle (touchPumps s) = pumpsAboveIdle s := by
  rw [touchPumps_eq]; rfl

/-- After a change of the raised set the quiet timer is 0 exactly while a pump is above the idle grade (R162). -/
theorem quiet_touchPumps (s : State) : (pumpsAboveIdle (touchPumps s) = true → (touchPumps s).pot.quiet = 0) ∧
    (pumpsAboveIdle (touchPumps s) = false → (touchPumps s).pot.quiet = s.pot.quiet) := by
  rw [pumpsAboveIdle_touchPumps, touchPumps_eq]
  exact ⟨fun h => if_pos h, fun h => if_neg (by simp [h])⟩

theorem touchPumps_raised (s : State) : (touchPumps s).pot.raised = s.pot.raised := by rw [touchPumps_eq]
theorem touchPumps_level (s : State) : (touchPumps s).pot.level = s.pot.level := by rw [touchPumps_eq]
theorem touchPumps_board (s : State) : (touchPumps s).board = s.board := by rw [touchPumps_eq]

/-! ### WAVE RAISE and WAVE LOWER (R157, R158, R161) -/

theorem waveRaise_raised {t : Tag} {s : State} (h : ∃ r ∈ s.pot.raised, r.tag = t) : waveRaise t s = s := by
  obtain ⟨r, hr, ht⟩ := h
  unfold waveRaise
  exact if_pos (List.any_eq_true.mpr ⟨r, hr, by simpa using ht⟩)

/-- The state with a board appended to the raised set. -/
def raisedWith (t : Tag) (p : WavePage) (s : State) : State :=
  { s with pot := { s.pot with raised := s.pot.raised ++ [⟨t, p.chip, p.main, p.enable⟩] } }

theorem waveRaise_new {t : Tag} {s : State} (h : ∀ r ∈ s.pot.raised, r.tag ≠ t) :
    (boardWave t (firstUse t s) = none → waveRaise t s = firstUse t s) ∧
    ∀ p, boardWave t (firstUse t s) = some p → waveRaise t s = touchPumps
      (if s.pot.level = some .lowLow then addException t xWaveLost 0 (raisedWith t p (firstUse t s))
       else raisedWith t p (firstUse t s)) := by
  have fresh : ¬(s.pot.raised.any fun r => r.tag == t) = true := by simpa using h
  unfold waveRaise
  rw [if_neg fresh]
  simp only []
  constructor
  · intro hp; rw [hp]
  · intro p hp
    rw [hp]
    refine congrArg touchPumps (ite_of_iff ?_ rfl rfl)
    rw [firstUse_pot]

/-- The record of a board given WAVE LOST, or not, before the pumps are judged. -/
theorem waveLost_pot (t : Tag) (s : State) (c : Prop) [Decidable c] :
    (if c then addException t xWaveLost 0 s else s).pot = s.pot := by split <;> rfl

/-! ### Grades and references (R155, R156, R159) -/

theorem pumpGrades_driven {s : State} (hr : s.loader.station = .running) (hp : s.cfg.functions.pot = true)
    (hl : s.pot.level ≠ some .lowLow) : pumpGrades s = gradesInForce s := by
  unfold pumpGrades
  exact if_pos (by simp [(running_eq_true_iff s).mpr hr, hp, hl])

theorem pumpGrades_stopped {s : State}
    (h : s.loader.station ≠ .running ∨ s.cfg.functions.pot = false ∨ s.pot.level = some .lowLow) : pumpGrades s = (0, 0) := by
  unfold pumpGrades
  refine if_neg ?_
  simp only [Bool.and_eq_true, bne_iff_ne, running_eq_true_iff]
  rintro ⟨⟨hr, hp⟩, hl⟩
  obtain h | h | h := h
  · exact h hr
  · rw [hp] at h; exact absurd h nofun
  · exact hl h

theorem pumpReferences_le {s : State} (h1 : (gradesInForce s).1 ≤ 255) (h2 : (gradesInForce s).2 ≤ 255) :
    (pumpReferences s).1 ≤ 1000 ∧ (pumpReferences s).2 ≤ 1000 := by
  have bound : (pumpGrades s).1 ≤ 255 ∧ (pumpGrades s).2 ≤ 255 := by
    unfold pumpGrades
    split
    · exact ⟨h1, h2⟩
    · exact ⟨by decide, by decide⟩
  unfold pumpReferences
  dsimp only
  omega

end Sys2Proof.Machine
end
section
open Sys2Proof Sys2Proof.Machine

/-- Settles O46: the two events through the judgement of the quiet timer that ends each, then the pumps' grades. -/
theorem waveEventsSetTheGrades : Obligations.WaveEventsSetTheGrades := by
  unfold Obligations.WaveEventsSetTheGrades
  refine ⟨fun t s => waveRaise_raised, fun t s hno => ?_, fun t s => ?_, fun s => ⟨fun h => ?_, fun r rs h => ?_, fun hr hp hl => ?_,
    fun h => ?_, pumpReferences_le⟩⟩
  · obtain ⟨unpaged, paged⟩ := waveRaise_new hno
    refine ⟨fun hp => by rw [unpaged hp, firstUse_pot], fun p hp => ?_⟩
    rw [paged p hp]
    obtain ⟨above, below⟩ := quiet_touchPumps (if s.pot.level = some .lowLow then
      addException t xWaveLost 0 (raisedWith t p (firstUse t s)) else raisedWith t p (firstUse t s))
    have pot := firstUse_pot t s
    refine ⟨?_, ?_, above, fun h => (below h).trans ?_, fun b hl hb hx => ?_⟩
    · rw [touchPumps_raised, waveLost_pot, raisedWith, pot]
    · rw [touchPumps_level, waveLost_pot, raisedWith, pot]
    · rw [waveLost_pot, raisedWith, pot]
    · obtain ⟨x, found, length⟩ := findRecord_firstUse hb
      have added := findRecord_addException (s := raisedWith t p (firstUse t s)) xWaveLost 0 found
      rw [if_pos hl, touchPumps_board]
      refine ⟨_, added, ?_⟩
      rw [show (raisedWith t p (firstUse t s)).me = s.me from firstUse_me t s]
      exact mem_addException (by omega)
  · exact ⟨touchPumps_raised _, quiet_touchPumps { s with pot := { s.pot with raised := s.pot.raised.filter fun r => r.tag != t } }⟩
  · unfold gradesInForce; rw [h]
  · unfold gradesInForce; rw [h]
  · unfold pumpReferences; rw [pumpGrades_driven hr hp hl]
  · unfold pumpReferences; rw [pumpGrades_stopped h]; rfl
end

section
/-! The level sample, feeding, and the pot's timers (R161 to R170). -/
namespace Sys2Proof.Machine

/-! ### Readings within a range -/

theorem readingWithin_nat {v hi : Nat} (h : v ≤ hi) : readingWithin (.value v) hi = some v := by
  unfold readingWithin
  simp only []
  rw [if_pos ⟨Int.natCast_nonneg v, Int.ofNat_le.mpr h⟩, Int.toNat_natCast]

theorem readingWithin_fault {r : Reading} {hi : Nat}
    (h : r = .openCircuit ∨ ∃ v : Int, r = .value v ∧ (v < 0 ∨ (hi : Int) < v)) : readingWithin r hi = none := by
  obtain rfl | ⟨v, rfl, hv⟩ := h
  · rfl
  · unfold readingWithin
    simp only []
    exact if_neg (by omega)

/-! ### Expiries that wait -/

theorem not_mem_withoutTimer (t : OwnTimer) (l : List OwnTimer) : t ∉ withoutTimer t l := by simp [withoutTimer]

theorem mem_withoutTimer {t x : OwnTimer} {l : List OwnTimer} (hx : x ≠ t) : x ∈ withoutTimer t l ↔ x ∈ l := by
  simp [withoutTimer, hx]

/-- Another timer's expiry stays as it is when a timer is restarted, and a void one stays void. -/
theorem overtake_queued {t x : OwnTimer} {s : State} (hx : x ≠ t) (h : x ∈ s.expiries.queued) :
    x ∈ (overtake t s).expiries.queued := by
  unfold overtake
  split
  · exact (mem_withoutTimer hx).mpr h
  · exact h

theorem overtake_lapsed {t x : OwnTimer} {s : State} (h : x ∈ s.expiries.lapsed) : x ∈ (overtake t s).expiries.lapsed := by
  unfold overtake
  split
  · exact List.mem_cons_of_mem _ h
  · exact h

/-! ### WAVE LOST for the raised boards (R161) -/

theorem addException_twice (e : BoardException) (r : BoardRecord) : (r.addException e).addException e = r.addException e := by
  by_cases hm : e ∈ r.exceptions
  · have same : r.addException e = r := if_pos hm
    rw [same, same]
  · by_cases hl : r.exceptions.length < 6
    · have added : r.addException e = { r with exceptions := r.exceptions ++ [e] } := by
        unfold BoardRecord.addException; rw [if_neg hm, if_pos hl]
      rw [added]
      exact if_pos (by simp)
    · have full : r.addException e = { r with overflow := true } := by
        unfold BoardRecord.addException; rw [if_neg hm, if_neg hl]
      rw [full]
      unfold BoardRecord.addException
      rw [if_neg hm, if_neg hl]

/-- An exception asked for once or more for each of a list's boards stands once in each record. -/
theorem foldl_addException (c : Nat) (l : List Raised) (s : State) :
    l.foldl (fun s r => addException r.tag c 0 s) s =
      { s with board := { s.board with queue := s.board.queue.map fun b =>
          if ∃ w ∈ l, w.tag = b.tag then b.addException ⟨c, 0, s.me⟩ else b } } := by
  induction l generalizing s with
  | nil => simp
  | cons w l ih =>
    rw [List.foldl_cons, ih]
    have joined : ∀ b : BoardRecord,
        (let x := if b.tag == w.tag then b.addException ⟨c, 0, s.me⟩ else b
         if ∃ y ∈ l, y.tag = x.tag then x.addException ⟨c, 0, s.me⟩ else x) =
        if ∃ y ∈ w :: l, y.tag = b.tag then b.addException ⟨c, 0, s.me⟩ else b := by
      intro b
      by_cases hb : b.tag = w.tag
      · simp only [hb, beq_self_eq_true, if_true, addException_tag, addException_twice, List.mem_cons, exists_eq_or_imp, true_or,
          ite_self]
      · have hb' : ¬w.tag = b.tag := fun h => hb h.symm
        simp only [beq_eq_false_iff_ne.mpr hb, Bool.false_eq_true, if_false, List.mem_cons, exists_eq_or_imp, hb', false_or]
    have queue : ((addException w.tag c 0 s).board.queue.map fun b =>
        if ∃ y ∈ l, y.tag = b.tag then b.addException ⟨c, 0, s.me⟩ else b) = s.board.queue.map fun b =>
        if ∃ y ∈ w :: l, y.tag = b.tag then b.addException ⟨c, 0, s.me⟩ else b :=
      (List.map_map ..).trans (List.map_congr_left fun b _ => joined b)
    change { s with board := { s.board with queue := (addException w.tag c 0 s).board.queue.map fun (b : BoardRecord) =>
        if ∃ y ∈ l, y.tag = b.tag then b.addException ⟨c, 0, s.me⟩ else b } } = _
    rw [queue]

/-! ### The level sample (R162 to R167) -/

theorem waveLostAll_board (s : State) (c : Prop) [Decidable c] : ∃ b, (if c then waveLostAll s else s) = { s with board := b } := by
  split
  · rw [waveLostAll, foldl_addException]; exact ⟨_, rfl⟩
  · exact ⟨s.board, rfl⟩

/-- A level state formed anew to HIGH or LOW-LOW, which cuts a feed pulse (R167). -/
def CutsFeed (was now : Option LevelState) : Prop := now ≠ was ∧ (now = some .high ∨ now = some .lowLow)

theorem levelChanged_pot (was : Option LevelState) (s : State) : ∃ q f, (levelChanged was s).pot = { s.pot with quiet := q, feed := f } ∧
    (levelChanged was s).expiries = s.expiries ∧
    (CutsFeed was s.pot.level → f = s.pot.feed.cut) ∧ (¬CutsFeed was s.pot.level → f = s.pot.feed) := by
  unfold levelChanged
  by_cases hw : s.pot.level = was
  · rw [if_pos hw]
    exact ⟨s.pot.quiet, s.pot.feed, rfl, rfl, fun h => absurd hw h.1, fun _ => rfl⟩
  · rw [if_neg hw]
    simp only []
    by_cases hc : s.pot.level = some .high ∨ s.pot.level = some .lowLow
    · rw [if_pos hc]
      obtain ⟨b, lost⟩ := waveLostAll_board { s with pot := { s.pot with feed := s.pot.feed.cut } } (s.pot.level = some .lowLow)
      rw [lost, touchPumps_eq]
      exact ⟨_, s.pot.feed.cut, rfl, rfl, fun _ => rfl, fun h => absurd ⟨hw, hc⟩ h⟩
    · rw [if_neg hc, if_neg fun h => hc (.inr h), touchPumps_eq]
      exact ⟨_, s.pot.feed, rfl, rfl, fun h => absurd h.2 hc, fun _ => rfl⟩

/-- The boards at a change of the level state: WAVE LOST for each raised one where it becomes LOW-LOW (R161). -/
theorem levelChanged_board (was : Option LevelState) (s : State) :
    (s.pot.level = was ∨ s.pot.level ≠ some .lowLow → (levelChanged was s).board = s.board) ∧
    (s.pot.level ≠ was → s.pot.level = some .lowLow → (levelChanged was s).board =
      { s.board with queue := s.board.queue.map fun b =>
          if ∃ w ∈ s.pot.raised, w.tag = b.tag then b.addException ⟨10, 0, s.me⟩ else b }) := by
  unfold levelChanged
  by_cases hw : s.pot.level = was
  · rw [if_pos hw]; exact ⟨fun _ => rfl, fun h => absurd hw h⟩
  · rw [if_neg hw]
    simp only [touchPumps_board]
    constructor
    · rintro (h | h)
      · exact absurd h hw
      · rw [if_neg h]; split <;> rfl
    · intro _ hl
      rw [if_pos hl, if_pos (.inr hl), waveLostAll, foldl_addException]
      rfl

theorem takeLevel_ignored {r : Reading} {s : State} (h : readingWithin r 1000 = none ∨ s.pot.quiet < 3000) : takeLevel r s = s := by
  unfold takeLevel
  cases hr : readingWithin r 1000 with
  | none => rfl
  | some v =>
    obtain h | h := h
    · rw [hr] at h; exact absurd h nofun
    · exact if_neg (Nat.not_le.mpr h)

/-- The state with a quiet reading taken, before what a change of the level state sets in motion. -/
def quietTaken (v : Nat) (s : State) : State :=
  overtake .levelStale (overtake .levelCheck { s with pot := s.pot.takeQuiet s.cfg.pot v })

theorem takeLevel_quiet {v : Nat} {s : State} (hv : v ≤ 1000) (hq : 3000 ≤ s.pot.quiet) :
    takeLevel (.value v) s = levelChanged s.pot.level (quietTaken v s) := by
  unfold takeLevel
  rw [readingWithin_nat hv]
  exact if_pos hq

theorem quietTaken_eq (v : Nat) (s : State) : ∃ e, quietTaken v s = { s with pot := s.pot.takeQuiet s.cfg.pot v, expiries := e } := by
  unfold quietTaken
  obtain ⟨e, h⟩ := overtake_eq .levelCheck { s with pot := s.pot.takeQuiet s.cfg.pot v }
  rw [h]
  obtain ⟨e', h'⟩ := overtake_eq .levelStale { s with pot := s.pot.takeQuiet s.cfg.pot v, expiries := e }
  exact ⟨e', h'⟩

/-- A reading either changes nothing or is a quiet one (R162). -/
theorem takeLevel_cases (r : Reading) (s : State) :
    takeLevel r s = s ∨ ∃ v, takeLevel r s = levelChanged s.pot.level (quietTaken v s) := by
  unfold takeLevel
  cases hr : readingWithin r 1000 with
  | none => exact .inl rfl
  | some v =>
    simp only []
    split
    · exact .inr ⟨v, rfl⟩
    · exact .inl rfl

/-- What a quiet reading makes of the pot (R163 to R167). -/
theorem takeLevel_pot {v : Nat} {s : State} (hv : v ≤ 1000) (hq : 3000 ≤ s.pot.quiet) :
    ∃ q f, (takeLevel (.value v) s).pot = { s.pot.takeQuiet s.cfg.pot v with quiet := q, feed := f } ∧
      (CutsFeed s.pot.level (s.pot.takeQuiet s.cfg.pot v).level → f = s.pot.feed.cut) ∧
      (¬CutsFeed s.pot.level (s.pot.takeQuiet s.cfg.pot v).level → f = s.pot.feed) := by
  rw [takeLevel_quiet hv hq]
  obtain ⟨e, h⟩ := quietTaken_eq v s
  obtain ⟨q, f, pot, -, cut, uncut⟩ := levelChanged_pot s.pot.level (quietTaken v s)
  rw [h] at pot cut uncut
  exact ⟨q, f, by rw [h]; exact pot, cut, uncut⟩

theorem ringPush_eq {v : Nat} {ring : List Nat} (h : ring.length ≤ 16) :
    ringPush v ring = (if ring.length = 16 then ring.drop 1 else ring) ++ [v] := by
  unfold ringPush
  exact congrArg (· ++ [v]) (ite_of_iff (by omega) rfl rfl)

theorem takeQuiet_full {p : PotCfg} {v : Nat} {t : Pot} (h : (ringPush v t.ring).length = 16) :
    (t.takeQuiet p v).avg = some ((ringPush v t.ring).sum / 16) ∧
    (t.takeQuiet p v).level = some (levelOfAverage p ((ringPush v t.ring).sum / 16)) := by
  unfold Pot.takeQuiet
  simp only [h]
  exact ⟨rfl, rfl⟩

theorem takeQuiet_short {p : PotCfg} {v : Nat} {t : Pot} (h : (ringPush v t.ring).length < 16) :
    (t.takeQuiet p v).avg = t.avg ∧ (t.takeQuiet p v).level = t.level := by
  unfold Pot.takeQuiet
  simp only [beq_eq_false_iff_ne.mpr (show (ringPush v t.ring).length ≠ 16 by omega)]
  exact ⟨rfl, rfl⟩

theorem takeQuiet_check (p : PotCfg) (v : Nat) (t : Pot) :
    (t.takeQuiet p v).check = checkAfter ((ringPush v t.ring).length == 16) t.check := rfl

theorem checkAfter_some (l n : Nat) : checkAfter (l == 16) (some n) = if l = 16 ∧ 10 ≤ n + 1 then none else some (n + 1) := by
  unfold checkAfter
  exact ite_of_iff (by simp) rfl rfl

/-! ### The judgement of feeding (R168, R170) -/

theorem judgeFeed_waits {s : State} (h : s.loader.station ≠ .running ∨ s.pot.feed ≠ .ready) : judgeFeed s = s := by
  unfold judgeFeed
  refine if_neg ?_
  simp only [Bool.and_eq_true, running_eq_true_iff, beq_iff_eq]
  rintro ⟨hr, hf⟩
  exact h.elim (· hr) (· hf)

section
variable {s : State} (hr : s.loader.station = .running) (hf : s.pot.feed = .ready)
include hr hf

theorem judgeFeed_ready : judgeFeed s = if feedWanted s then
      if feedGates s then
        { s with pot := { s.pot with feed := .pulse 0, budget := s.pot.budget - 1, feedRun := true } }
      else if s.pot.budget == 0 && !s.pot.runaway then
        appearance aFeedRunaway { s with pot := { s.pot with runaway := true } }
      else s
    else
      match s.pot.avg with
      | some v => if s.cfg.pot.feedOff ≤ v then { s with pot := { s.pot with feedRun := false } } else s
      | none => s := by
  unfold judgeFeed
  exact if_pos (by simp [(running_eq_true_iff s).mpr hr, hf])

theorem judgeFeed_begins (hw : feedWanted s = true) (hg : feedGates s = true) :
    judgeFeed s = { s with pot := { s.pot with feed := .pulse 0, budget := s.pot.budget - 1, feedRun := true } } := by
  rw [judgeFeed_ready hr hf, if_pos hw, if_pos hg]

theorem judgeFeed_runaway (hw : feedWanted s = true) (hb : s.pot.budget = 0) (hm : s.pot.runaway = false) :
    judgeFeed s = appearance aFeedRunaway { s with pot := { s.pot with runaway := true } } := by
  rw [judgeFeed_ready hr hf, if_pos hw, if_neg (by simp [feedGates, hb]), if_pos (by simp [hb, hm])]

theorem judgeFeed_shut (hw : feedWanted s = true) (hg : feedGates s = false) (hb : s.pot.budget ≠ 0 ∨ s.pot.runaway = true) :
    judgeFeed s = s := by
  rw [judgeFeed_ready hr hf, if_pos hw, if_neg (by simp [hg]), if_neg]
  simp only [Bool.and_eq_true, beq_iff_eq, Bool.not_eq_true']
  rintro ⟨h0, hm⟩
  obtain hb | hb := hb
  · exact hb h0
  · rw [hm] at hb; exact absurd hb nofun

theorem judgeFeed_stops {v : Nat} (hw : feedWanted s = false) (ha : s.pot.avg = some v) (hv : s.cfg.pot.feedOff ≤ v) :
    judgeFeed s = { s with pot := { s.pot with feedRun := false } } := by
  rw [judgeFeed_ready hr hf, if_neg (by simp [hw]), ha]
  exact if_pos hv

theorem judgeFeed_unwanted (hw : feedWanted s = false) (hv : ∀ v, s.pot.avg = some v → v < s.cfg.pot.feedOff) : judgeFeed s = s := by
  rw [judgeFeed_ready hr hf, if_neg (by simp [hw])]
  cases ha : s.pot.avg with
  | none => rfl
  | some v => exact if_neg (Nat.not_le.mpr (hv v ha))

end

/-- What a judgement of feeding does, case by case. -/
theorem judgeFeed_cases (s : State) :
    (s.loader.station = .running ∧ s.pot.feed = .ready ∧ feedWanted s = true ∧ feedGates s = true ∧
      judgeFeed s = { s with pot := { s.pot with feed := .pulse 0, budget := s.pot.budget - 1, feedRun := true } }) ∨
    ∃ a w b, judgeFeed s = { s with pot := { s.pot with feedRun := w, runaway := b }, alarm := a } := by
  by_cases hr : s.loader.station = .running
  · by_cases hf : s.pot.feed = .ready
    · rw [judgeFeed_ready hr hf]
      by_cases hw : feedWanted s = true
      · rw [if_pos hw]
        by_cases hg : feedGates s = true
        · exact .inl ⟨hr, hf, hw, hg, if_pos hg⟩
        · rw [if_neg hg]
          split
          · exact .inr ⟨_, s.pot.feedRun, true, rfl⟩
          · exact .inr ⟨s.alarm, s.pot.feedRun, s.pot.runaway, rfl⟩
      · rw [if_neg hw]
        right
        cases s.pot.avg with
        | none => exact ⟨s.alarm, s.pot.feedRun, s.pot.runaway, rfl⟩
        | some v =>
          simp only []
          split
          · exact ⟨s.alarm, false, s.pot.runaway, rfl⟩
          · exact ⟨s.alarm, s.pot.feedRun, s.pot.runaway, rfl⟩
    · rw [judgeFeed_waits (.inr hf)]; exact .inr ⟨s.alarm, s.pot.feedRun, s.pot.runaway, rfl⟩
  · rw [judgeFeed_waits (.inl hr)]; exact .inr ⟨s.alarm, s.pot.feedRun, s.pot.runaway, rfl⟩

/-- A judgement of feeding leaves what the level samples form. -/
theorem judgeFeed_level (s : State) : (judgeFeed s).pot.ring = s.pot.ring ∧ (judgeFeed s).pot.avg = s.pot.avg ∧
    (judgeFeed s).pot.level = s.pot.level ∧ (judgeFeed s).pot.age = s.pot.age ∧ (judgeFeed s).pot.check = s.pot.check := by
  obtain ⟨-, -, -, -, e⟩ | ⟨a, w, b, e⟩ := judgeFeed_cases s
  · rw [e]; exact ⟨rfl, rfl, rfl, rfl, rfl⟩
  · rw [e]; exact ⟨rfl, rfl, rfl, rfl, rfl⟩

theorem feedGates_iff (s : State) : feedGates s = true ↔ levelVerified s = true ∧ potReady s = true ∧ 0 < s.pot.budget ∧
    s.alarm.at 47 = .idle ∧ s.pot.level ≠ some .high ∧ s.pot.level ≠ some .lowLow := by
  simp only [feedGates, Bool.and_eq_true, decide_eq_true_eq, Bool.not_eq_true', bne_iff_ne, AlarmUnit.standing, aFeedRunaway,
    bne_eq_false_iff_eq, and_assoc]

theorem feedWanted_iff (s : State) : feedWanted s = true ↔ ∃ v, s.pot.avg = some v ∧
    (v < s.cfg.pot.feedOn ∨ (v < s.cfg.pot.feedOff ∧ s.pot.feedRun = true)) := by
  unfold feedWanted
  cases s.pot.avg with
  | none => exact ⟨nofun, fun ⟨_, h, _⟩ => nomatch h⟩
  | some v =>
    simp only [Bool.or_eq_true, Bool.and_eq_true, decide_eq_true_eq, Option.some.injEq, exists_eq_left']

theorem levelVerified_iff (s : State) : levelVerified s = true ↔ s.pot.avg ≠ none ∧ s.pot.age < 300000 := by
  unfold levelVerified
  rw [Bool.and_eq_true, decide_eq_true_eq, Option.isSome_iff_ne_none]
  rfl

theorem mem_potChannels {img : Image} {k : Nat} : k ∈ img.potChannels ↔ k < 6 ∧ (img.channel k).fn = .pot := by
  simp only [Image.potChannels, List.mem_filter, mem_usedChannels, beq_iff_eq]
  exact ⟨fun ⟨⟨hk, _⟩, hp⟩ => ⟨hk, hp⟩, fun ⟨hk, hp⟩ => ⟨⟨hk, by rw [hp]; nofun⟩, hp⟩⟩

theorem phase_ne_unsettled_iff (p : DetPhase) : p ≠ .unsettled ↔ p = .confirming ∨ p = .settled := by
  cases p <;> decide

theorem potReady_iff (s : State) : potReady s = true ↔ (∃ k, k < 6 ∧ (s.cfg.channel k).fn = .pot) ∧
    ∀ k, k < 6 → (s.cfg.channel k).fn = .pot → ∃ d, channel s k = some d ∧
      (d.det.phase = .confirming ∨ d.det.phase = .settled) := by
  have judged (k : Nat) : (match channel s k with | some c => c.det.phase != .unsettled | none => false) = true ↔
      ∃ d, channel s k = some d ∧ (d.det.phase = .confirming ∨ d.det.phase = .settled) := by
    cases channel s k with
    | none => exact ⟨nofun, fun ⟨_, h, _⟩ => nomatch h⟩
    | some c => simp only [bne_iff_ne, phase_ne_unsettled_iff, Option.some.injEq, exists_eq_left']
  have some_pot : s.cfg.potChannels.isEmpty = false ↔ ∃ k, k < 6 ∧ (s.cfg.channel k).fn = .pot := by
    rw [List.isEmpty_eq_false_iff_exists_mem]
    exact exists_congr fun k => mem_potChannels
  have all_ready : (∀ k ∈ s.cfg.potChannels, ∃ d, channel s k = some d ∧ (d.det.phase = .confirming ∨ d.det.phase = .settled)) ↔
      ∀ k, k < 6 → (s.cfg.channel k).fn = .pot → ∃ d, channel s k = some d ∧
        (d.det.phase = .confirming ∨ d.det.phase = .settled) :=
    forall_congr' fun k => by rw [mem_potChannels, and_imp]
  unfold potReady
  rw [Bool.and_eq_true, Bool.not_eq_true', some_pot, List.all_eq_true, ← all_ready]
  exact and_congr_right fun _ => forall_congr' fun k => imp_congr_right fun _ => judged k

theorem standing_feedRunaway {s : State} (h : s.alarm.place.length = 64) : (appearance aFeedRunaway s).alarm.standing 47 = true :=
  AlarmUnit.standing_appear (by rw [h]; decide) (.inr (.inl (by decide)))

/-! ### The commands -/

theorem exec_levelSample {r : Reading} {s : State} (h : potActs s = true) : exec (.levelSample r) s =
    .next (finish (judgeFeed (takeLevel r { s with pins := { s.pins with level := r }, pot := { s.pot with sampleAge := some 0 } }))) :=
  if_pos h

/-- What the end of a level sample leaves of the pot. -/
theorem levelSample_pot (s : State) : let t := finish (judgeFeed s)
    t.pot.ring = s.pot.ring ∧ t.pot.avg = s.pot.avg ∧ t.pot.level = s.pot.level ∧ t.pot.age = s.pot.age ∧
      t.pot.check = s.pot.check ∧ (s.pot.feed ≠ .ready → t.pot.feed = s.pot.feed) := by
  obtain ⟨ring, avg, level, age, check⟩ := judgeFeed_level s
  refine ⟨(finish_ring _).trans ring, (finish_avg _).trans avg, (finish_level _).trans level, (finish_age _).trans age,
    (finish_check _).trans check, fun hf => (finish_feed _).trans ?_⟩
  rw [judgeFeed_waits (.inr hf)]

end Sys2Proof.Machine
end
section
open Sys2Proof Sys2Proof.Machine

/-- Settles O47: the quiet reading taken, then what a change of the level state does to the feeder and the boards. -/
theorem levelSampleForms : Obligations.LevelSampleForms := by
  unfold Obligations.LevelSampleForms
  refine ⟨fun r s ha => ⟨_, exec_levelSample ha, fun v hr hv hq hl => ?_, fun hr => ?_⟩, fun r s => ?_⟩
  · subst hr
    obtain ⟨q, f, pot, cut, uncut⟩ := takeLevel_pot (v := v)
      (s := { s with pins := { s.pins with level := .value v }, pot := { s.pot with sampleAge := some 0 } }) hv hq
    obtain ⟨ring, avg, level, age, check, feed⟩ := levelSample_pot (takeLevel (.value v)
      { s with pins := { s.pins with level := .value v }, pot := { s.pot with sampleAge := some 0 } })
    rw [pot] at ring avg level age check feed
    dsimp only at cut uncut ring avg level age check feed
    rw [← ringPush_eq hl]
    refine ⟨ring, age, fun hfull => ?_, fun hshort => ?_, check.trans ?_, fun m hm => ?_⟩
    · obtain ⟨avgs, levels⟩ := takeQuiet_full (p := s.cfg.pot) (t := { s.pot with sampleAge := some 0 }) hfull
      exact ⟨avg.trans avgs, level.trans levels⟩
    · obtain ⟨avgs, levels⟩ := takeQuiet_short (p := s.cfg.pot) (t := { s.pot with sampleAge := some 0 }) hshort
      exact ⟨avg.trans avgs, level.trans levels⟩
    · rw [takeQuiet_check]
      cases s.pot.check with
      | none => rfl
      | some n => exact checkAfter_some ..
    · rw [level]
      by_cases hc : CutsFeed s.pot.level (s.pot.takeQuiet s.cfg.pot v).level
      · have ended : f = .pause 0 := (cut hc).trans (by rw [hm]; rfl)
        rw [ended] at feed
        exact (feed nofun).trans (if_pos hc).symm
      · have kept : f = .pulse m := (uncut hc).trans hm
        rw [kept] at feed
        exact (feed nofun).trans (if_neg hc).symm
  · rw [takeLevel_ignored (by
      obtain h | h | h := hr
      · exact .inl (readingWithin_fault (.inl h))
      · exact .inl (readingWithin_fault (.inr h))
      · exact .inr h)]
    obtain ⟨ring, avg, level, age, check, feed⟩ := levelSample_pot
      { s with pins := { s.pins with level := r }, pot := { s.pot with sampleAge := some 0 } }
    exact ⟨ring, avg, level, age, check, fun m hm => (feed (by rw [hm]; nofun)).trans hm⟩
  · obtain same | ⟨v, taken⟩ := takeLevel_cases r s
    · rw [same]; exact ⟨fun _ => rfl, fun h => absurd rfl h⟩
    · obtain ⟨q, f, pot, -, -, -⟩ := levelChanged_pot s.pot.level (quietTaken v s)
      obtain ⟨kept, lost⟩ := levelChanged_board s.pot.level (quietTaken v s)
      obtain ⟨e, eq⟩ := quietTaken_eq v s
      have level : (takeLevel r s).pot.level = (quietTaken v s).pot.level := by rw [taken, pot]
      simp only []
      rw [level, taken]
      rw [eq] at kept lost ⊢
      exact ⟨kept, lost⟩

/-- Settles O48: the judgement case by case, with each of its tests spelled out. -/
theorem feedPulseBeginsOnlyGated : Obligations.FeedPulseBeginsOnlyGated := by
  unfold Obligations.FeedPulseBeginsOnlyGated
  refine ⟨fun s => ⟨fun hne => ?_, fun he => ?_, fun hr hf hw => ⟨fun h1 h2 h3 h4 h5 h6 => ?_, fun hb hm => ?_, fun hb hm => ?_,
    fun hb hg => ?_⟩⟩, fun s => ⟨feedWanted_iff s, levelVerified_iff s, potReady_iff s, judgeFeed_waits, fun v hr hf ha hoff hon => ?_,
    fun hr hf => judgeFeed_unwanted hr hf⟩, fun r s => exec_levelSample, fun s hm => ?_⟩
  · obtain ⟨hr, hf, hw, hg, e⟩ | ⟨a, w, b, e⟩ := judgeFeed_cases s
    · obtain ⟨verified, ready, budget, idle, high, low⟩ := (feedGates_iff s).mp hg
      rw [e]
      exact ⟨rfl, hr, hf, hw, verified, ready, budget, idle, high, low, rfl, rfl⟩
    · rw [e] at hne; exact absurd rfl hne
  · obtain ⟨hr, hf, hw, hg, e⟩ | ⟨a, w, b, e⟩ := judgeFeed_cases s
    · rw [e, hf] at he; exact absurd he nofun
    · rw [e]
  · exact judgeFeed_begins hr hf hw ((feedGates_iff s).mpr ⟨h1, h2, h3, h4, h5, h6⟩)
  · have runaway := judgeFeed_runaway hr hf hw hb hm
    refine ⟨runaway, fun hl => ?_⟩
    rw [runaway]
    exact standing_feedRunaway hl
  · exact judgeFeed_shut hr hf hw (Bool.eq_false_iff.mpr fun g => by have := ((feedGates_iff s).mp g).2.2.1; omega) (.inr hm)
  · refine judgeFeed_shut hr hf hw (Bool.eq_false_iff.mpr fun g => ?_) (.inl (by omega))
    obtain ⟨verified, ready, -, idle, high, low⟩ := (feedGates_iff s).mp g
    obtain h | h | h | h | h := hg
    · rw [verified] at h; exact absurd h nofun
    · rw [ready] at h; exact absurd h nofun
    · exact h idle
    · exact high h
    · exact low h
  · refine judgeFeed_stops hr hf (Bool.eq_false_iff.mpr fun hw => ?_) ha hoff
    obtain ⟨x, hx, h⟩ := (feedWanted_iff s).mp hw
    obtain rfl := Option.some.inj (ha.symm.trans hx)
    omega
  · have queued : Instr.meltPauseEnd ∈ (freeOrder (dueCommands s).length (dueCommands s) (tickTimers s)).1 := by
      refine Classical.byContradiction fun g => ?_
      rw [show (tick s).pending = pauseFirst _ from rfl, pauseFirst_of_not_mem g] at hm
      exact g hm
    exact ⟨_, pauseFirst_of_mem queued, by simp⟩

/-- Settles O49: each command by its definition, an expiry of the level age by whether it is void. -/
theorem potTimersEnd : Obligations.PotTimersEnd := by
  unfold Obligations.PotTimersEnd
  refine ⟨fun s ha hx => ⟨_, (if_pos ha).trans (congrArg Host.Outcome.next (takeExpiry_acts hx))⟩,
    fun s ha hx => ⟨_, (if_pos ha).trans (congrArg Host.Outcome.next (takeExpiry_void hx)), fun h => not_mem_withoutTimer _ _ h⟩,
    fun s ha hx => ⟨_, if_pos ha, ?_⟩,
    fun s ha hx => ⟨_, (if_pos ha).trans (congrArg (fun t => Host.Outcome.next (finish t)) (takeExpiry_void hx)), fun h => not_mem_withoutTimer _ _ h⟩,
    fun s v hq hv x hx hw => ?_, fun s n ha hf => ⟨_, if_pos ha, ?_⟩, fun s n ha hf => ?_, fun s ha => if_pos ha⟩
  · rw [takeExpiry_acts hx]
    have stale : 300000 ≤ (finish (levelStaleNow
        { s with expiries := { s.expiries with queued := withoutTimer .levelStale s.expiries.queued } })).pot.age := by
      rw [finish_age]; exact Nat.le_max_left ..
    exact ⟨stale, Bool.eq_false_iff.mpr fun h => by have := ((levelVerified_iff _).mp h).2; omega⟩
  · obtain ⟨_, _, -, expiries, -⟩ := levelChanged_pot s.pot.level (quietTaken v s)
    rw [takeLevel_quiet hv hq, expiries]
    obtain rfl | rfl := hx
    · exact overtake_lapsed (overtake_lapses hw)
    · exact overtake_lapses (overtake_queued nofun hw)
  · have cut : s.pot.feed.cut = .pause 0 := by rw [hf]; rfl
    rw [cut]
    exact ⟨rfl, rfl⟩
  · have ended : s.pot.feed.pauseOver = .ready := by rw [hf]; rfl
    refine (if_pos ha).trans ?_
    rw [ended]
end

section
/-! The proven state, the flow sample, and the timers of the extraction (R173 to R184). -/
namespace Sys2Proof.Machine

/-! ### The proven state (R176, R179, R180, R181) -/

theorem proven_hood {s : State} (h : s.cfg.functions.hood = true) : proven s = true ↔ s.fume.det.phase = .settled := by
  unfold proven
  rw [if_pos h, beq_iff_eq]

theorem proven_adopted {s : State} (h : s.cfg.functions.hood = false) : proven s = s.fume.adopted := by
  unfold proven
  exact if_neg (by simp [h])

theorem hasPreheat_iff (img : Image) : hasPreheat img = true ↔ ∃ k, k < 6 ∧ (img.channel k).fn.preheat = true := by
  simp only [hasPreheat, List.any_eq_true, List.mem_range]

theorem provenChanged_same {was : Bool} {s : State} (h : proven s = was) : provenChanged was s = s := by
  unfold provenChanged
  exact if_pos h

theorem provenChanged_proven {s : State} (h : proven s = true) :
    provenChanged false s = { s with fume := { s.fume with grace := none, graceZero := false } } := by
  unfold provenChanged
  rw [if_neg (by simp [h]), if_pos h]

theorem provenChanged_lost {s : State} (h : proven s = false) : provenChanged true s =
    if hasPreheat s.cfg && s.active then
      { s with flux := { s.flux with nozzle := none }, fume := { s.fume with grace := some 0 } }
    else { s with flux := { s.flux with nozzle := none } } := by
  unfold provenChanged
  rw [if_neg (by simp [h]), if_neg (by simp [h])]
  rfl

theorem provenChanged_eq (was : Bool) (s : State) : ∃ nz g z, provenChanged was s =
    { s with flux := { s.flux with nozzle := nz }, fume := { s.fume with grace := g, graceZero := z } } := by
  by_cases h : proven s = was
  · rw [provenChanged_same h]; exact ⟨s.flux.nozzle, s.fume.grace, s.fume.graceZero, rfl⟩
  · cases was with
    | false =>
      rw [provenChanged_proven (Bool.not_eq_false _ |>.mp h)]
      exact ⟨s.flux.nozzle, none, false, rfl⟩
    | true =>
      rw [provenChanged_lost (Bool.not_eq_true _ |>.mp h)]
      split
      · exact ⟨none, some 0, s.fume.graceZero, rfl⟩
      · exact ⟨none, s.fume.grace, s.fume.graceZero, rfl⟩

/-! ### The flow sample (R173, R176 to R178) -/

theorem lostRuns_iff (s : State) : lostRuns s = true ↔ s.loader.station = .running ∧ s.cfg.functions.hood = true ∧
    0 < s.fume.target ∧ s.fume.measured < s.fume.target / 4 := by
  simp only [lostRuns, Bool.and_eq_true, running_eq_true_iff, decide_eq_true_eq, and_assoc]

/-- The state with a flow sample taken, before its effects. -/
def flowTaken (f p : Reading) (s : State) : State :=
  { s with pins := { s.pins with flow := f, pressure := p }, fume := s.fume.take s.cfg f p }

theorem hoodActs_hood {s : State} (h : hoodActs s = true) : s.cfg.functions.hood = true := by
  unfold hoodActs at h
  exact (Bool.and_eq_true_iff.mp h).2

theorem exec_flowSample {f p : Reading} {s : State} (h : hoodActs s = true) :
    exec (.flowSample f p) s = .next (finish (judgeLost (provenChanged (proven s) (flowTaken f p s)))) := if_pos h

/-- The lost timer after a flow sample: it stands where it runs, and is 0 otherwise (R177). -/
theorem judgeLost_flowTaken {was : Bool} {f p : Reading} {s : State} (h : s.cfg.functions.hood = true) :
    let u := provenChanged was (flowTaken f p s)
    judgeLost u = if s.loader.station = .running ∧ 0 < u.fume.target ∧ u.fume.measured < u.fume.target / 4 then u
      else { u with fume := { u.fume with lost := 0 } } := by
  intro u
  obtain ⟨nz, g, z, e⟩ := provenChanged_eq was (flowTaken f p s)
  have loader : u.loader = s.loader := by
    change (provenChanged was (flowTaken f p s)).loader = _
    rw [e]; rfl
  unfold judgeLost
  refine ite_of_iff ?_ rfl rfl
  rw [lostRuns_iff, State.cfg, loader]
  exact ⟨fun ⟨a, _, c⟩ => ⟨a, c⟩, fun ⟨a, c⟩ => ⟨a, h, c⟩⟩

/-- What a flow sample leaves in the extraction's measured values. -/
theorem flowSample_fume (was : Bool) (f p : Reading) (s : State) :
    let t := finish (judgeLost (provenChanged was (flowTaken f p s)))
    let x := s.fume.take s.cfg f p
    t.fume.measured = x.measured ∧ t.fume.filter = x.filter ∧ t.fume.loaded = x.loaded ∧ t.fume.blocked = x.blocked ∧
      t.fume.det = x.det ∧ t.pos.counter = s.pos.counter ∧ t.allot = s.allot := by
  have lost (u : State) : ∃ n, judgeLost u = { u with fume := { u.fume with lost := n } } := by
    unfold judgeLost
    split
    · exact ⟨u.fume.lost, rfl⟩
    · exact ⟨0, rfl⟩
  obtain ⟨nz, g, z, e⟩ := provenChanged_eq was (flowTaken f p s)
  obtain ⟨n, e'⟩ := lost (provenChanged was (flowTaken f p s))
  simp only [finish_measured, finish_filter, finish_loaded, finish_blocked, finish_det, finish_counter, finish_allot]
  rw [e', e]
  exact ⟨rfl, rfl, rfl, rfl, rfl, rfl, rfl⟩

/-! ### The required flow and the check target (R174, R175) -/

theorem requiredNow_eq (s : State) : requiredNow s = min s.cfg.fume.hoodMax (s.cfg.fume.baseFlow
    + s.cfg.fume.vapourAdd * s.board.queue.countP (fun b => b.volume.isSome)) := by
  rw [List.countP_eq_length_filter]; rfl

theorem formRequired_hoodless {s : State} (h : s.cfg.functions.hood = false) : formRequired s = s := by
  unfold formRequired
  exact if_neg (by simp [h])

section
variable {s : State} (h : s.cfg.functions.hood = true)
include h

theorem formRequired_hood : formRequired s =
    riseRestarted { s with fume := s.fume.retarget s.cfg.fume.riseDelay (requiredNow s) } := by
  unfold formRequired
  exact if_pos h

/-- A required flow at or below the target, or raised with no delay, is the target at once. -/
theorem formRequired_reached (hr : requiredNow s ≤ s.fume.target ∨ (s.fume.required < requiredNow s ∧ s.cfg.fume.riseDelay = 0)) :
    formRequired s = { s with fume := { s.fume with required := requiredNow s, target := requiredNow s, rise := none } } := by
  have retargeted : s.fume.retarget s.cfg.fume.riseDelay (requiredNow s) =
      { s.fume with required := requiredNow s, target := requiredNow s, rise := none } := by
    unfold Fume.retarget
    by_cases ht : requiredNow s ≤ s.fume.target
    · exact if_pos ht
    · obtain ⟨hq, hd⟩ := hr.resolve_left ht
      rw [if_neg ht, if_pos hq, if_pos hd]
  rw [formRequired_hood h, retargeted]
  exact if_neg nofun

/-- A rise of the required flow restarts the rise delay timer. -/
theorem formRequired_rises (hq : s.fume.required < requiredNow s) (ht : s.fume.target < requiredNow s)
    (hd : 0 < s.cfg.fume.riseDelay) :
    formRequired s = overtake .riseDelay { s with fume := { s.fume with required := requiredNow s, rise := some 0 } } := by
  have retargeted : s.fume.retarget s.cfg.fume.riseDelay (requiredNow s) =
      { s.fume with required := requiredNow s, rise := some 0 } := by
    unfold Fume.retarget
    rw [if_neg (by omega), if_pos hq, if_neg (by omega)]
  rw [formRequired_hood h, retargeted]
  exact if_pos rfl

/-- A required flow above the target that is no rise lets the rise delay timer run on. -/
theorem formRequired_falls (ht : s.fume.target < requiredNow s) (hq : requiredNow s ≤ s.fume.required) :
    formRequired s = riseRestarted { s with fume := { s.fume with required := requiredNow s } } := by
  have retargeted : s.fume.retarget s.cfg.fume.riseDelay (requiredNow s) = { s.fume with required := requiredNow s } := by
    unfold Fume.retarget
    rw [if_neg (by omega), if_neg (by omega)]
  rw [formRequired_hood h, retargeted]

end

/-! ### The fan curve (R183) -/

theorem curveReference_below {f : Nat} {p : CurvePoint} {rest : List CurvePoint} (h : f ≤ p.flow) :
    curveReference f (p :: rest) = p.reference := by
  cases rest with
  | nil => rfl
  | cons q rest => exact if_pos h

/-- Points of the curve that lie below the flow do not count. -/
theorem curveReference_beyond {f : Nat} {p q : CurvePoint} {rest : List CurvePoint} (hp : p.flow < f) (hq : q.flow ≤ f) :
    curveReference f (p :: q :: rest) = curveReference f (q :: rest) := by
  rw [curveReference, if_neg (by omega), if_neg (by omega)]

theorem curveReference_skip {f : Nat} {p : CurvePoint} {pre rest : List CurvePoint}
    (h : (pre ++ p :: rest).Pairwise fun x y => x.flow < y.flow) (hp : p.flow ≤ f) :
    curveReference f (pre ++ p :: rest) = curveReference f (p :: rest) := by
  induction pre with
  | nil => rfl
  | cons a pre ih =>
    obtain ⟨first, later⟩ := List.pairwise_cons.mp h
    have below : a.flow < p.flow := first p (by simp)
    rw [← ih later]
    cases pre with
    | nil => exact curveReference_beyond (by omega) hp
    | cons b pre =>
      have next : b.flow < p.flow := (List.pairwise_cons.mp later).1 p (by simp)
      exact curveReference_beyond (by omega) (by omega)

/-- A share of a difference is no less than the difference where that is negative. -/
theorem interpolated_nonneg {a b x d : Int} (ha : 0 ≤ a) (hb : 0 ≤ b) (hx : 0 ≤ x) (hd : x < d) :
    0 ≤ a + ((b - a) * x).tdiv d := by
  have below : -(a * d) ≤ (b - a) * x := by
    have gained := Int.mul_nonneg hb hx
    have given := Int.mul_le_mul_of_nonneg_left (Int.le_of_lt hd) ha
    rw [Int.sub_mul]
    omega
  have share : -a ≤ ((b - a) * x).tdiv d := by
    calc -a = (-(a * d)).tdiv d := by rw [← Int.neg_mul, Int.mul_tdiv_cancel _ (by omega)]
      _ ≤ ((b - a) * x).tdiv d := Int.tdiv_le_tdiv (by omega) below
  omega

theorem curveReference_between {f : Nat} {p q : CurvePoint} {rest : List CurvePoint} (hp : p.flow ≤ f) (hq : f < q.flow) :
    (curveReference f (p :: q :: rest) : Int) = p.reference
      + (((q.reference : Int) - p.reference) * ((f : Int) - p.flow)).tdiv ((q.flow : Int) - p.flow) := by
  by_cases he : f ≤ p.flow
  · obtain rfl : f = p.flow := Nat.le_antisymm he hp
    rw [curveReference_below he, Int.sub_self, Int.mul_zero, Int.zero_tdiv, Int.add_zero]
  · rw [curveReference, if_neg he, if_pos hq]
    exact Int.toNat_of_nonneg (interpolated_nonneg (by omega) (by omega) (by omega) (by omega))

/-! ### The fan (R182, R184) -/

theorem formFan_hosted {s : State} (h : s.cfg.functions.fan = true) : formFan s = { s with fume := { s.fume with
    fanSum := fanSumNow s, fanRef := curveReference (fanSumNow s) s.cfg.fume.curve
    feedback := if curveReference (fanSumNow s) s.cfg.fume.curve = 0 then 0 else s.fume.feedback } } := by
  unfold formFan
  exact if_pos h

/-- The flow sum is that of the stations' flows, however they are given (R182). -/
theorem formFan_flow {s : State} {flow : Nat → Nat} (h : s.cfg.functions.fan = true) (hf : ∀ n, flow n = fanFlow s n) :
    formFan s = { s with fume := { s.fume with
      fanSum := ((List.range 16).map flow).sum
      fanRef := curveReference ((List.range 16).map flow).sum s.cfg.fume.curve
      feedback := if curveReference ((List.range 16).map flow).sum s.cfg.fume.curve = 0 then 0 else s.fume.feedback } } := by
  obtain rfl : flow = fanFlow s := funext hf
  exact formFan_hosted h

theorem formFan_unhosted {s : State} (h : s.cfg.functions.fan = false) : formFan s = s := by
  unfold formFan
  exact if_neg (by simp [h])

theorem feedbackRuns_iff (s : State) : feedbackRuns s = true ↔ fanActs s = true ∧ 0 < s.fume.fanRef ∧ s.pins.fanRun = false := by
  simp only [feedbackRuns, Bool.and_eq_true, decide_eq_true_eq, Bool.not_eq_true', and_assoc]

/-- FAN NOT RUNNING, once asked for with the feedback inactive, stands at the end of the command. -/
theorem standing_fanNotRunning {s : State} (hl : s.alarm.place.length = 64) (hp : s.pins.fanRun = false) :
    (finish (appearance aFanNotRunning s)).alarm.standing 52 = true := by
  refine standing_finish (by decide) (by decide) (fun v hv => ?_)
    (AlarmUnit.standing_appear (by rw [hl]; decide) (.inl ?_))
  · have holds : recoveryHolds (appearance aFanNotRunning s) 52 = false := by
      change (s.cfg.functions.fan && s.pins.fanRun) = false
      rw [hp, Bool.and_false]
    rw [dueFlag, if_neg (by decide), if_pos (by decide), holds] at hv
    exact (Option.some.inj hv).symm
  · unfold Image.masked
    rw [show levelOf aFanNotRunning = 7 by decide]
    exact Bool.and_false _

/-! ### The adopted flag (R179) -/

theorem adoptedNow_iff (s : State) : adoptedNow s = true ↔ s.link.isolation ≠ 8 ∧
    ∃ p, peer s s.cfg.cover = some p ∧ p.age < 1000 ∧ p.status.proven = true := by
  unfold adoptedNow isolated
  rw [Bool.and_eq_true, Bool.not_eq_true', beq_eq_false_iff_ne]
  refine and_congr_right fun _ => ?_
  cases peer s s.cfg.cover with
  | none => exact ⟨nofun, fun ⟨_, h, _⟩ => nomatch h⟩
  | some p => exact ⟨fun h => ⟨p, rfl, of_decide_eq_true (Bool.and_eq_true_iff.mp h).1, (Bool.and_eq_true_iff.mp h).2⟩,
      fun ⟨q, hq, ha, hp⟩ => by
        obtain rfl := Option.some.inj hq
        exact Bool.and_eq_true_iff.mpr ⟨decide_eq_true ha, hp⟩⟩

theorem formAdopted_hooded {s : State} (h : s.cfg.functions.hood = true) : formAdopted s = s := by
  unfold formAdopted
  exact if_pos h

theorem formAdopted_hoodless {s : State} (h : s.cfg.functions.hood = false) :
    formAdopted s = provenChanged (proven s) { s with fume := { s.fume with adopted := adoptedNow s } } := by
  unfold formAdopted
  exact if_neg (by simp [h])

theorem formAdopted_adopted {s : State} (h : s.cfg.functions.hood = false) : (formAdopted s).fume.adopted = adoptedNow s := by
  rw [formAdopted_hoodless h]
  obtain ⟨_, _, _, e⟩ := provenChanged_eq (proven s) { s with fume := { s.fume with adopted := adoptedNow s } }
  rw [e]

end Sys2Proof.Machine
end
section
open Sys2Proof Sys2Proof.Machine

/-- Settles O50: the sample taken, then the two effects that follow it. -/
theorem flowSampleMeasures : Obligations.FlowSampleMeasures := by
  unfold Obligations.FlowSampleMeasures
  refine ⟨fun f p s ha => ⟨_, exec_flowSample ha, ?_⟩, fun f p s ha => ?_, fun was s => ⟨provenChanged_same, fun hw hp => ?_,
    fun hw hp => ⟨fun hk hs => ?_, fun hn => ?_⟩⟩, fun s => ⟨proven_hood, proven_adopted⟩⟩
  · obtain ⟨measured, filter, loaded, blocked, det, counter, allot⟩ := flowSample_fume (proven s) f p s
    rw [measured, filter, loaded, blocked, det]
    refine ⟨fun v hf hv => ?_, fun hf => ?_, fun v hp hv => ?_, fun hp => ?_, decide_eq_true_iff, decide_eq_true_iff, rfl,
      counter, allot⟩
    · subst hf; exact congrArg (·.getD 0) (readingWithin_nat hv)
    · exact congrArg (·.getD 0) (readingWithin_fault hf)
    · subst hp; exact congrArg (·.getD 5000) (readingWithin_nat hv)
    · exact congrArg (·.getD 5000) (readingWithin_fault hp)
  · rw [exec_flowSample ha, judgeLost_flowTaken (hoodActs_hood ha)]
    rfl
  · subst hw; exact provenChanged_proven hp
  · subst hw
    rw [provenChanged_lost hp]
    exact if_pos (Bool.and_eq_true_iff.mpr ⟨(hasPreheat_iff _).mpr hk, hs⟩)
  · subst hw
    rw [provenChanged_lost hp]
    refine if_neg ?_
    rw [Bool.and_eq_true, hasPreheat_iff]
    rintro ⟨⟨k, hk, hf⟩, hs⟩
    obtain hn | hn := hn
    · rw [hn k hk] at hf; exact absurd hf nofun
    · rw [hn] at hs; exact absurd hs nofun

/-- Settles O51: the required flow, the timers, the fan and the adopted flag, each by its own equations. -/
theorem extractionTimersEnd : Obligations.ExtractionTimersEnd := by
  unfold Obligations.ExtractionTimersEnd
  refine ⟨fun s n ha hr hx => ⟨{ s.expiries with queued := withoutTimer .riseDelay s.expiries.queued }, ?_⟩,
    fun s ha hx => ⟨_, (if_pos ha).trans (congrArg Host.Outcome.next (takeExpiry_void hx)), fun h => not_mem_withoutTimer _ _ h⟩,
    fun s hh hq ht hd => ?_, fun s => ⟨requiredNow_eq s, formRequired_hoodless, fun hh => ⟨formRequired_reached hh, fun ht hq => ?_⟩⟩,
    fun s hr hh hm => ⟨_, if_pos ((lostRuns_iff s).mpr ⟨hr, hh, by omega, hm⟩), ?_, finish_loader _⟩,
    fun s n ha hg => ⟨_, if_pos ha, ?_⟩, fun b s ha => ⟨_, if_pos ha, ?_⟩,
    fun s ha hr hp hf hl => ⟨_, if_pos ?_, standing_fanNotRunning hl hp⟩,
    fun s => ⟨fun hf => formFan_flow hf fun n => ?_, formFan_unhosted⟩,
    fun f p rest => curveReference_below, fun f pre p hs hp => curveReference_skip hs hp, fun f pre p q post hs hp hq => ?_,
    fun s => ⟨formAdopted_hooded, fun hh => ⟨?_, ?_⟩⟩, fun n s => ite_of_iff ?_ rfl rfl⟩
  · have ended : s.fume.riseOver = { s.fume with target := s.fume.required, rise := none } := by
      unfold Fume.riseOver; rw [hr]
    refine (if_pos ha).trans (congrArg Host.Outcome.next ((takeExpiry_acts hx).trans ?_))
    unfold riseExpired
    rw [ended]
  · rw [formRequired_rises hh hq ht hd]
    obtain ⟨e, he⟩ := overtake_eq .riseDelay { s with fume := { s.fume with required := requiredNow s, rise := some 0 } }
    exact ⟨by rw [he], fun hw => overtake_lapses hw⟩
  · rw [formRequired_falls hh ht hq]
    unfold riseRestarted
    by_cases hz : s.fume.rise = some 0
    · obtain ⟨e, he⟩ := overtake_eq .riseDelay { s with fume := { s.fume with required := requiredNow s } }
      rw [if_pos hz, he]
      exact ⟨rfl, fun h => absurd hz h⟩
    · rw [if_neg hz]
      exact ⟨rfl, fun _ => rfl⟩
  · rw [finish_lost]; exact Nat.le_max_left ..
  · have ended : s.fume.graceOver = { s.fume with grace := none, graceZero := true } := by
      unfold Fume.graceOver; rw [hg]
    rw [ended]
    refine ⟨rfl, fun fn hp => ?_, rfl⟩
    unfold extractionCeiling
    exact if_pos (by rw [hp]; rfl)
  · rw [finish_pins, finish_feedback]
    cases b <;> exact ⟨rfl, rfl⟩
  · rw [(feedbackRuns_iff s).mpr ⟨ha, hr, hp⟩, hf]
    rfl
  · unfold fanFlow
    refine ite_of_iff Iff.rfl rfl (ite_of_iff Iff.rfl rfl ?_)
    cases peer s n with
    | none => rfl
    | some p =>
      refine ite_of_iff (and_congr decide_eq_true_iff.symm ?_ |>.trans Bool.and_eq_true_iff.symm) rfl rfl
      simp [isolated]
  · rw [curveReference_skip hs hp]; exact curveReference_between hp hq
  · rw [formAdopted_adopted hh, adoptedNow_iff]
  · rw [formAdopted_adopted hh, formAdopted_hoodless hh]
  · unfold isolated
    rw [Bool.eq_iff_iff, beq_iff_eq, beq_iff_eq]
end

section
/-! Frames sent: the frame check over them, and the bodies read back (R4, R205, R206). -/
namespace Sys2Proof.Machine

/-! ### Fields written and read -/

@[simp] theorem length_beBytes (w n : Nat) : (beBytes w n).length = w := by
  induction w with
  | zero => rfl
  | succ w ih => rw [beBytes, List.length_cons, ih]

/-- Parts of one length, joined for each entry of a list. -/
theorem length_flatMap_of {α : Type} {n : Nat} {f : α → List Byte} (h : ∀ a, (f a).length = n) (l : List α) :
    (l.flatMap f).length = n * l.length := by
  induction l with
  | nil => rfl
  | cons a l ih => rw [List.flatMap_cons, List.length_append, h, ih, List.length_cons, Nat.mul_succ, Nat.add_comm]

@[simp] theorem length_byte1 (n : Nat) : (byte1 n).length = 1 := length_beBytes 1 n

@[simp] theorem length_productBytes (p : Product) : (productBytes p).length = 3 := by
  cases p <;> exact length_beBytes ..

@[simp] theorem length_posBytes (p : Option Pos) : (posBytes p).length = 3 := length_beBytes ..

@[simp] theorem length_signedBytes (w : Nat) (v : Int) : (signedBytes w v).length = w := length_beBytes ..

theorem byteAt_append_right {a b : List Byte} {n : Nat} (h : a.length = n) (i : Nat) : byteAt (a ++ b) (n + i) = byteAt b i := by
  subst h
  unfold byteAt
  rw [List.getD_eq_getElem?_getD, List.getElem?_append_right (Nat.le_add_right ..), Nat.add_sub_cancel_left,
    List.getD_eq_getElem?_getD]

theorem field_append_right {a b : List Byte} {n : Nat} (h : a.length = n) (i w : Nat) : field (a ++ b) (n + i) w = field b i w := by
  induction w with
  | zero => rfl
  | succ w ih => rw [field, field, ih, Nat.add_assoc, byteAt_append_right h]

theorem field_cons (x : Byte) (b : List Byte) (w : Nat) : field (x :: b) 0 (w + 1) = x.toNat * 256 ^ w + field b 0 w := by
  induction w with
  | zero => simp [field, byteAt]
  | succ w ih =>
    have last : byteAt (x :: b) (0 + (w + 1)) = byteAt b (0 + w) := by simp [byteAt]
    rw [field, ih, last, field, Nat.pow_succ, Nat.add_mul, Nat.mul_assoc, Nat.add_assoc]

/-- A field reads the value written in it, as far as its bytes hold it. -/
theorem field_beBytes (w n : Nat) (rest : List Byte) : field (beBytes w n ++ rest) 0 w = n % 256 ^ w := by
  induction w with
  | zero => simp [field, Nat.mod_one]
  | succ w ih =>
    have high : (BitVec.ofNat 8 (n / 256 ^ w)).toNat = n / 256 ^ w % 256 := BitVec.toNat_ofNat ..
    rw [beBytes, List.cons_append, field_cons, ih, high, Nat.pow_succ, Nat.mod_mul (a := 256 ^ w), Nat.add_comm,
      Nat.mul_comm (256 ^ w)]

/-- A layout of fields, each with its width and its value. -/
def encode (l : List (Nat × Nat)) : List Byte := l.flatMap fun x => beBytes x.1 x.2

/-- The bytes from offset i on hold the fields of a layout. -/
def Reads (b : List Byte) : Nat → List (Nat × Nat) → Prop
  | _, [] => True
  | i, (w, n) :: l => field b i w = n % 256 ^ w ∧ Reads b (i + w) l

theorem reads_append {a rest : List Byte} {l : List (Nat × Nat)} {i : Nat} (h : a.length = i) :
    Reads (a ++ (encode l ++ rest)) i l := by
  induction l generalizing a i with
  | nil => trivial
  | cons x l ih =>
    obtain ⟨w, n⟩ := x
    have first : encode ((w, n) :: l) ++ rest = beBytes w n ++ (encode l ++ rest) := by simp [encode]
    rw [first]
    refine ⟨(field_append_right h 0 w).trans (field_beBytes ..), ?_⟩
    rw [← List.append_assoc]
    exact ih (by rw [List.length_append, length_beBytes, h])

/-- A layout as it was written is read field by field. -/
theorem reads_encode (l : List (Nat × Nat)) (rest : List Byte) : Reads (encode l ++ rest) 0 l := reads_append (a := []) rfl

/-! ### Sets, flags and products -/

theorem testBit_packBits (l : List Bool) (i : Nat) : (packBits l).testBit i = l.getD i false := by
  induction l generalizing i with
  | nil => simp [packBits]
  | cons b l ih =>
    cases i with
    | zero => cases b <;> simp [packBits, Nat.testBit_zero]
    | succ i =>
      have half : packBits (b :: l) / 2 = packBits l := by rw [packBits]; have := Bool.toNat_le b; omega
      rw [Nat.testBit_succ, half, ih]; rfl

theorem packBits_lt (l : List Bool) : packBits l < 2 ^ l.length := by
  induction l with
  | nil => decide
  | cons b l ih =>
    rw [packBits, List.length_cons, Nat.pow_succ]
    have := Bool.toNat_le b
    omega

theorem flagAt_eq {b : List Byte} {i : Nat} {x : Bool} (h : byteAt b i = x.toNat % 256) : flagAt b i = x := by
  unfold flagAt
  rw [h]
  cases x <;> rfl

/-- The bits of a byte that packs up to eight of them. -/
theorem testBit_byte {b : List Byte} {i : Nat} {l : List Bool} (h : byteAt b i = packBits l % 256) (hl : l.length ≤ 8) (j : Nat) :
    (byteAt b i).testBit j = l.getD j false := by
  have small : packBits l < 256 := Nat.lt_of_lt_of_le (packBits_lt l) (Nat.pow_le_pow_right (by decide) hl)
  rw [h, Nat.mod_eq_of_lt small, testBit_packBits]

theorem functionsAt_eq {b : List Byte} {i : Nat} {f : Functions} (h : byteAt b i = f.byte % 256) : functionsAt b i = f := by
  have bit := testBit_byte h (Nat.le_of_ble_eq_true rfl)
  unfold functionsAt
  rw [bit, bit, bit, bit, bit, bit]
  rfl

theorem blockersAt_eq {b : List Byte} {i : Nat} {f : Blockers} (h : byteAt b i = f.byte % 256) : blockersAt b i = f := by
  have bit := testBit_byte h (Nat.le_of_ble_eq_true rfl)
  unfold blockersAt
  rw [bit, bit, bit, bit, bit, bit, bit]
  rfl

/-- The value that a product field holds (R205). -/
def productNum (p : Product) : Nat := p.getD 16777215

theorem productBytes_eq (p : Product) : productBytes p = beBytes 3 (productNum p) := by cases p <;> rfl

theorem productAt_eq {b : List Byte} {i : Nat} {p : Product} (h : field b i 3 = productNum p % 256 ^ 3)
    (hp : ∀ q, p = some q → q ≤ 1048575) : productAt b i = p := by
  unfold productAt
  cases p with
  | none =>
    have num : field b i 3 = 16777215 := h
    rw [num]
    exact if_neg (by decide)
  | some q =>
    have bound := hp q rfl
    have num : field b i 3 = q := h.trans (Nat.mod_eq_of_lt (show q < 256 ^ 3 by omega))
    rw [num]
    exact if_pos bound

/-! ### Bodies as layouts -/

/-- The fields of STATUS (R206). -/
def statusLayout (f : StatusFields) : List (Nat × Nat) :=
  [(1, f.station.code), (1, f.functions.byte), (1, f.admitFlag.toNat), (3, productNum f.readyFor), (1, f.blockers.byte),
   (1, f.hold.toNat), (1, f.queueCount), (1, f.expectedCount), (1, f.highest.getD 255), (1, f.pendingCount),
   (2, f.requiredFlow), (2, f.hoodMax), (2, f.measuredFlow), (1, f.proven.toNat), (1, f.listIncomplete.toNat),
   (1, f.discard), (1, f.badCount), (1, f.startMark.toNat)]

theorem statusBytes_eq (f : StatusFields) : statusBytes f = encode (statusLayout f) ++ [] := by
  simp [statusBytes, statusLayout, encode, productBytes_eq, byte1]

/-- The fields of BOARD OFFER before the exception slots (R206). -/
def offerLayout (r : BoardRecord) (st : Resolution) : List (Nat × Nat) :=
  [(2, r.tag), (3, productNum r.product), (1, r.stray.toNat), (3, r.length),
   (1, packBits [r.lead.isSome, r.trail.isSome, r.volume.isSome, r.overflow]),
   (3, (r.lead.map BitVec.toNat).getD 0), (3, (r.trail.map BitVec.toNat).getD 0), (1, r.state.code), (1, r.ref.form),
   (1, r.ref.number), (1, st.code), (2, r.volume.getD 0), (1, r.exceptions.length)]

theorem offerBytes_eq (r : BoardRecord) (st : Resolution) :
    offerBytes r st = encode (offerLayout r st) ++ exceptionSlots r.exceptions := by
  simp [offerBytes, offerLayout, encode, productBytes_eq, byte1, posBytes]

/-- One exception slot (R206). -/
def slotBytes (e : BoardException) : List Byte := byte1 e.code ++ byte1 e.qualifier ++ byte1 e.station

@[simp] theorem length_slotBytes (e : BoardException) : (slotBytes e).length = 3 := by simp [slotBytes]

theorem exceptionSlots_eq (es : List BoardException) :
    exceptionSlots es = (es.take 6).flatMap slotBytes ++ List.replicate (18 - 3 * min es.length 6) 0 := rfl

@[simp] theorem length_exceptionSlots (es : List BoardException) : (exceptionSlots es).length = 18 := by
  rw [exceptionSlots_eq, List.length_append, length_flatMap_of length_slotBytes, List.length_replicate, List.length_take]
  omega

/-- A byte of the slots: that of its own exception. -/
theorem byteAt_slots {es : List BoardException} {j k : Nat} {e : BoardException} (h : es[j]? = some e) (hk : k < 3)
    (rest : List Byte) : byteAt (es.flatMap slotBytes ++ rest) (3 * j + k) = byteAt (slotBytes e) k := by
  induction es generalizing j with
  | nil => exact absurd h nofun
  | cons x es ih =>
    rw [List.flatMap_cons, List.append_assoc]
    cases j with
    | zero =>
      obtain rfl := Option.some.inj h
      rw [Nat.mul_zero, Nat.zero_add]
      simp [byteAt, List.getD_eq_getElem?_getD, List.getElem?_append_left, hk]
    | succ j =>
      rw [show 3 * (j + 1) + k = 3 + (3 * j + k) by omega, byteAt_append_right (length_slotBytes x)]
      exact ih h

/-- The three values of a slot. -/
theorem byteAt_slotBytes (e : BoardException) : byteAt (slotBytes e) 0 = e.code % 256 ∧
    byteAt (slotBytes e) 1 = e.qualifier % 256 ∧ byteAt (slotBytes e) 2 = e.station % 256 := by
  simp [slotBytes, byte1, beBytes, byteAt, BitVec.toNat_ofNat]

/-- The exceptions of a body that has them from offset i. -/
theorem exceptionsAt_eq {a : List Byte} {es : List BoardException} (hl : es.length ≤ 6)
    (he : ∀ e ∈ es, e.code ≤ 255 ∧ e.qualifier ≤ 255 ∧ e.station ≤ 255) :
    exceptionsAt (a ++ exceptionSlots es) a.length es.length = es := by
  have read (j k : Nat) (e : BoardException) (h : es[j]? = some e) (hk : k < 3) :
      byteAt (a ++ exceptionSlots es) (a.length + 3 * j + k) = byteAt (slotBytes e) k := by
    rw [Nat.add_assoc, byteAt_append_right rfl, exceptionSlots_eq, List.take_of_length_le hl, byteAt_slots h hk]
  refine List.ext_getElem (by simp [exceptionsAt]) fun j h1 h2 => ?_
  obtain ⟨code, qualifier, station⟩ := byteAt_slotBytes es[j]
  obtain ⟨hc, hq, hs⟩ := he es[j] (List.getElem_mem h2)
  have at_j : es[j]? = some es[j] := List.getElem?_eq_getElem h2
  have r0 := (read j 0 _ at_j (by decide)).trans code
  have r1 := (read j 1 _ at_j (by decide)).trans qualifier
  have r2 := (read j 2 _ at_j (by decide)).trans station
  rw [Nat.add_zero] at r0
  simp only [exceptionsAt, List.getElem_map, List.getElem_range]
  rw [r0, r1, r2, Nat.mod_eq_of_lt (by omega), Nat.mod_eq_of_lt (by omega), Nat.mod_eq_of_lt (by omega)]

/-! ### Bodies read back -/

/-- A BOARD OFFER is read as the record it was made from, but for what the receiver sets (R51, R206). -/
theorem offerRecord_offerBytes {r : BoardRecord} {st : Resolution} (htag : r.tag ≤ 65535)
    (hproduct : ∀ p, r.product = some p → p ≤ 1048575) (hlength : r.length < 16777216)
    (hvolume : ∀ v, r.volume = some v → v ≤ 65535) (hcount : r.exceptions.length ≤ 6)
    (hexc : ∀ e ∈ r.exceptions, e.code ≤ 255 ∧ e.qualifier ≤ 255 ∧ e.station ≤ 255) :
    offerRecord (offerBytes r st) = { r with lead := none, trail := none, state := .inbound, ref := .default } := by
  rw [offerBytes_eq]
  have size : (encode (offerLayout r st)).length = 23 := by simp [encode, offerLayout]
  have exceptions := exceptionsAt_eq (a := encode (offerLayout r st)) hcount hexc
  have all := reads_encode (offerLayout r st) (exceptionSlots r.exceptions)
  rw [size] at exceptions
  generalize encode (offerLayout r st) ++ exceptionSlots r.exceptions = b at exceptions all ⊢
  simp only [offerLayout, Reads, Nat.reduceAdd, field_one] at all
  obtain ⟨tag, product, stray, length, flags, -, -, -, -, -, -, volume, count, -⟩ := all
  have bit := testBit_byte flags (Nat.le_of_ble_eq_true rfl)
  have held : (if (byteAt b 9).testBit 2 then some (field b 20 2) else none) = r.volume := by
    rw [bit, volume]
    cases hv : r.volume with
    | none => rfl
    | some v =>
      have small : v % 256 ^ 2 = v := Nat.mod_eq_of_lt (by have := hvolume v hv; omega)
      exact (if_pos rfl).trans (congrArg some small)
  have listed : byteAt b 22 = r.exceptions.length := count.trans (Nat.mod_eq_of_lt (by omega))
  unfold offerRecord
  rw [tag, productAt_eq product hproduct, flagAt_eq stray, length, held, listed, Nat.min_eq_left hcount, exceptions, bit,
    decide_eq_false (by omega : ¬6 < r.exceptions.length), Bool.or_false, Nat.mod_eq_of_lt (Nat.lt_of_le_of_lt htag (by decide)),
    Nat.mod_eq_of_lt (by omega)]
  rfl

/-- A STATUS is read as its sender filled it (R15, R206). -/
theorem statusBody_statusBytes {f : StatusFields}
    (hstation : f.station = .configFault ∨ f.station = .joining ∨ f.station = .running)
    (hready : ∀ p, f.readyFor = some p → p ≤ 1048575) (hqueue : f.queueCount ≤ 255) (hexpected : f.expectedCount ≤ 255)
    (hhighest : ∀ l, f.highest = some l → 1 ≤ l ∧ l ≤ 7) (hpending : f.pendingCount ≤ 7) (hreq : f.requiredFlow ≤ 2000)
    (hmax : f.hoodMax ≤ 2000) (hmeas : f.measuredFlow ≤ 2000) (hdisc : f.discard ≤ 255) (hbad : f.badCount ≤ 255) :
    statusBody (statusBytes f) = f := by
  rw [statusBytes_eq]
  have all := reads_encode (statusLayout f) []
  generalize encode (statusLayout f) ++ [] = b at all ⊢
  simp only [statusLayout, Reads, Nat.reduceAdd, field_one] at all
  obtain ⟨station, functions, admitted, ready, blockers, hold, queue, expected, highest, pending, required, hoodMax, measured,
    proven, incomplete, discard, bad, mark, -⟩ := all
  have station' : statusStation (byteAt b 0) = f.station := by
    rw [station]
    obtain h | h | h := hstation <;> rw [h] <;> rfl
  have queue' : byteAt b 8 = f.queueCount := by omega
  have expected' : byteAt b 9 = f.expectedCount := by omega
  have highest' : (if 1 ≤ byteAt b 10 ∧ byteAt b 10 ≤ 7 then some (byteAt b 10) else none) = f.highest := by
    rw [highest]
    cases h : f.highest with
    | none => rfl
    | some l =>
      obtain ⟨low, high⟩ := hhighest l h
      have small : l % 256 ^ 1 = l := Nat.mod_eq_of_lt (by omega)
      rw [Option.getD_some, small]
      exact if_pos ⟨low, high⟩
  have pending' : min (byteAt b 11) 7 = f.pendingCount := by omega
  have required' : min (field b 12 2) 2000 = f.requiredFlow := by omega
  have hoodMax' : min (field b 14 2) 2000 = f.hoodMax := by omega
  have measured' : min (field b 16 2) 2000 = f.measuredFlow := by omega
  have discard' : byteAt b 20 = f.discard := by omega
  have bad' : byteAt b 21 = f.badCount := by omega
  unfold statusBody
  rw [station', functionsAt_eq functions, flagAt_eq admitted, productAt_eq ready hready, blockersAt_eq blockers, flagAt_eq hold,
    queue', expected', highest', pending', required', hoodMax', measured', flagAt_eq proven, flagAt_eq incomplete, discard', bad',
    flagAt_eq mark]

/-! ### Body lengths and the frame check (R4, R205) -/

@[simp] theorem length_exitBytes (r : BoardRecord) (c : ExitCause) : (exitBytes r c).length = 30 := by simp [exitBytes]

@[simp] theorem length_statusBytes (f : StatusFields) : (statusBytes f).length = 23 := by simp [statusBytes]

@[simp] theorem length_offerBytes (r : BoardRecord) (st : Resolution) : (offerBytes r st).length = 41 := by simp [offerBytes]

@[simp] theorem length_snapshotBytes (s : Snapshot) : (snapshotBytes s).length = 35 := by
  unfold snapshotBytes
  simp only [List.length_append, length_byte1, length_beBytes]
  rw [length_flatMap_of (n := 4), List.length_range]
  intro k
  rw [List.length_append, length_signedBytes, length_beBytes]

@[simp] theorem length_profileBytes (p : Profile) : (profileBytes p).length = 9 + 5 * p.channels.length := by
  unfold profileBytes
  simp only [List.length_append, length_byte1, length_beBytes]
  rw [length_flatMap_of (n := 5)]
  intro c
  simp only [List.length_append, length_byte1, length_signedBytes]

/-- A body has a length that R206 allows for its kind. -/
theorem lengthOk_bytes (b : Body) (h : ∀ p, b = .profile p → 1 ≤ p.channels.length ∧ p.channels.length ≤ 6) :
    b.kind.lengthOk b.bytes.length = true := by
  cases b with
  | alarmAck o c => cases c <;> rfl
  | profile p =>
    obtain ⟨low, high⟩ := h p rfl
    simp only [Body.bytes, Body.kind, Kind.lengthOk, length_profileBytes, Bool.or_eq_true, beq_iff_eq]
    omega
  | alarmRaise | alarmClear | admitted | boardExit | recipeRequest | heatDemand | status | snapshotReport | boardOffer =>
    simp [Body.bytes, Body.kind, Kind.lengthOk]

theorem le_of_lengthOk {k : Kind} {n : Nat} (h : k.lengthOk n = true) : n ≤ 72 := by
  cases k <;> simp only [Kind.lengthOk, Bool.or_eq_true, beq_iff_eq] at h <;> omega

theorem num_lt (k : Kind) : k.num < 2 ^ 5 := by cases k <;> decide

theorem frameCovered_crc (f : RawFrame) (c : BitVec 16) : frameCovered { f with crc := c } = frameCovered f := rfl

/-- A frame passes the check as the kind it carries. -/
theorem frameCheck_of {f : RawFrame} {k : Kind} (hk : f.kind.toNat = k.num) (hl : f.length.toNat = f.body.length)
    (ho : k.lengthOk f.body.length = true) (hc : f.crc = crcOf (frameCovered f)) (hw : f.whole = true) :
    frameCheck f = some k := by
  unfold frameCheck
  rw [hk, ofNum_num]
  exact if_pos (by simp [hl, ho, hc, hw, le_of_lengthOk ho])

/-- A frame that carries the CRC of its own bits passes the check as its kind. -/
theorem frameCheck_signed {f : RawFrame} {k : Kind} (hk : f.kind.toNat = k.num) (hl : f.length.toNat = f.body.length)
    (ho : k.lengthOk f.body.length = true) (hw : f.whole = true) :
    frameCheck { f with crc := crcOf (frameCovered f) } = some k := by
  have covered := congrArg crcOf (frameCovered_crc f (crcOf (frameCovered f)))
  generalize crcOf (frameCovered f) = c at covered ⊢
  exact frameCheck_of hk hl ho covered.symm hw

end Sys2Proof.Machine
end
section
open Sys2Proof Sys2Proof.Machine

/-- Settles O59: the kind and length fields hold their values, and the CRC is the one that the check forms. -/
theorem sentFramesPassTheCheck : Obligations.SentFramesPassTheCheck := by
  unfold Obligations.SentFramesPassTheCheck
  intro e me h
  have allowed := lengthOk_bytes e.body h
  have short := le_of_lengthOk allowed
  unfold TxEntry.frame
  have kind : (BitVec.ofNat 5 e.body.kind.num).toNat = e.body.kind.num :=
    (BitVec.toNat_ofNat ..).trans (Nat.mod_eq_of_lt (num_lt _))
  have length : (BitVec.ofNat 7 e.body.bytes.length).toNat = e.body.bytes.length :=
    (BitVec.toNat_ofNat ..).trans (Nat.mod_eq_of_lt (by omega))
  exact frameCheck_signed kind length allowed rfl

/-- Settles O60: each field of the layout is read at its offset, then decoded. -/
theorem bodiesRoundTrip : Obligations.BodiesRoundTrip := by
  unfold Obligations.BodiesRoundTrip
  refine ⟨fun r st htag hproduct hlength hvolume hcount hexc => ?_, fun f hstation hready hqueue hexpected hhighest hpending hreq hmax
    hmeas hdisc hbad => ?_⟩
  · exact offerRecord_offerBytes htag hproduct hlength hvolume hcount hexc
  · exact statusBody_statusBytes hstation hready hqueue hexpected hhighest hpending hreq hmax hmeas hdisc hbad
end

section
/-! The start image: its reading, its limits and its agreement (R20 to R22, R207). -/
namespace Sys2Proof.Machine

/-! ### The copies read (R20) -/

/-- A copy that is read whole behind a good header. -/
def Headed (mem c : List Byte) : Prop :=
  let read := fun i => (mem.getD i 0xFF#8).toNat
  let n := 256 * read 2 + read 3
  256 * read 0 + read 1 = 18742 ∧ 466 ≤ n ∧ n ≤ 1536 ∧ c = (List.range n).map fun i => mem.getD i 0xFF#8

/-- A copy with a good CRC. -/
def Sound (c : List Byte) : Prop :=
  crcOf (bytesBits (c.take (c.length - 2))) = BitVec.ofNat 16 (field c (c.length - 2) 2)

theorem crcOk_iff (c : List Byte) : crcOk c = true ↔ Sound c := by
  unfold crcOk Sound
  rw [beq_iff_eq]

theorem byteAt_clockIn {mem : List Byte} {n i : Nat} (h : i < n) : byteAt (clockIn mem n) i = (mem.getD i 0xFF#8).toNat := by
  simp [byteAt, clockIn, h]

theorem field_header (mem : List Byte) (i : Nat) (h : i + 1 < 6) : field (clockIn mem 6) i 2 =
    256 * (mem.getD i 0xFF#8).toNat + (mem.getD (i + 1) 0xFF#8).toNat := by
  rw [field, field, field, Nat.zero_mul, Nat.zero_add, Nat.add_zero, byteAt_clockIn (by omega), byteAt_clockIn h, Nat.mul_comm]

theorem readCopy_iff (mem c : List Byte) : readCopy mem = some c ↔ Headed mem c := by
  have tag : tagOk (clockIn mem 6) = true ↔ 256 * (mem.getD 0 0xFF#8).toNat + (mem.getD 1 0xFF#8).toNat = 18742 := by
    rw [tagOk, beq_iff_eq, field_header mem 0 (by decide)]
  have length : lengthOk (clockIn mem 6) = true ↔ 466 ≤ 256 * (mem.getD 2 0xFF#8).toNat + (mem.getD 3 0xFF#8).toNat ∧
      256 * (mem.getD 2 0xFF#8).toNat + (mem.getD 3 0xFF#8).toNat ≤ 1536 := by
    rw [lengthOk, inLimits_eq_true_iff, field_header mem 2 (by decide)]
  have copy : clockIn mem (field (clockIn mem 6) 2 2) =
      (List.range (256 * (mem.getD 2 0xFF#8).toNat + (mem.getD 3 0xFF#8).toNat)).map fun i => mem.getD i 0xFF#8 := by
    rw [field_header mem 2 (by decide)]; rfl
  unfold readCopy Headed
  simp only []
  rw [copy]
  by_cases hg : tagOk (clockIn mem 6) = true ∧ lengthOk (clockIn mem 6) = true
  · obtain ⟨ht, hl⟩ := hg
    rw [if_pos (Bool.and_eq_true_iff.mpr ⟨ht, hl⟩), Option.some.injEq]
    obtain ⟨low, high⟩ := length.mp hl
    exact ⟨fun h => ⟨tag.mp ht, low, high, h.symm⟩, fun h => h.2.2.2.symm⟩
  · rw [if_neg fun h => hg (Bool.and_eq_true_iff.mp h)]
    exact ⟨nofun, fun ⟨ht, low, high, _⟩ => absurd ⟨tag.mpr ht, length.mpr ⟨low, high⟩⟩ hg⟩

/-- The copy kept: the first where its CRC is good, else the second where that one's is (R20). -/
theorem readImage_iff (first second b : List Byte) : readImage first second = some b ↔
    Sound b ∧ (Headed first b ∨ (∃ c, Headed first c ∧ ¬Sound c) ∧ Headed second b) := by
  unfold readImage
  cases hf : readCopy first with
  | none =>
    have unread : ∀ c, ¬Headed first c := fun c hc => by
      rw [(readCopy_iff first c).mpr hc] at hf; exact absurd hf nofun
    exact ⟨nofun, fun ⟨_, h⟩ => h.elim (fun g => absurd g (unread _)) fun ⟨⟨c, hc, _⟩, _⟩ => absurd hc (unread _)⟩
  | some a =>
    have headed := (readCopy_iff first a).mp hf
    have unique : ∀ c, Headed first c → c = a := fun c hc => by
      rw [(readCopy_iff first c).mpr hc] at hf; exact Option.some.inj hf
    simp only []
    by_cases ha : crcOk a = true
    · have sound := (crcOk_iff a).mp ha
      rw [if_pos ha, Option.some.injEq]
      refine ⟨fun h => h ▸ ⟨sound, .inl headed⟩, fun ⟨_, h⟩ => ?_⟩
      obtain h | ⟨⟨c, hc, bad⟩, _⟩ := h
      · exact (unique b h).symm
      · exact absurd (unique c hc ▸ sound) bad
    · have unsound : ¬Sound a := fun h => ha ((crcOk_iff a).mpr h)
      rw [if_neg ha]
      cases hs : readCopy second with
      | none =>
        refine ⟨nofun, fun ⟨sound, h⟩ => ?_⟩
        obtain h | ⟨_, h⟩ := h
        · exact absurd (unique b h ▸ sound) unsound
        · rw [(readCopy_iff second b).mpr h] at hs; exact absurd hs nofun
      | some c =>
        have headed' := (readCopy_iff second c).mp hs
        simp only []
        rw [Option.ite_none_right_eq_some, Option.some.injEq, crcOk_iff]
        refine ⟨fun ⟨sound, e⟩ => e ▸ ⟨sound, .inr ⟨⟨a, headed, unsound⟩, headed'⟩⟩, fun ⟨sound, h⟩ => ?_⟩
        obtain h | ⟨_, h⟩ := h
        · exact absurd (unique b h ▸ sound) unsound
        · rw [(readCopy_iff second b).mpr h] at hs
          obtain rfl := Option.some.inj hs
          exact ⟨sound, rfl⟩

/-! ### The limits (R207) -/

/-- The members that an image names. -/
def membersOf (b : List Byte) : List Nat := (List.range 16).filter fun m => (field b 11 2).testBit m

theorem member_imageOf (b : List Byte) (m : Nat) : (imageOf b).member m = true ↔ m ∈ membersOf b := by
  change (BitVec.ofNat 16 (field b 11 2)).getLsbD m = true ↔ _
  simp [membersOf, BitVec.getLsbD_ofNat]

theorem memberCount_eq (b : List Byte) : memberCount (BitVec.ofNat 16 (field b 11 2)) = (membersOf b).length := by
  unfold memberCount membersOf
  refine congrArg List.length (List.filter_congr fun m hm => ?_)
  rw [BitVec.getLsbD_ofNat, decide_eq_true (List.mem_range.mp hm), Bool.true_and]

theorem assumedLimits_iff (b : List Byte) : (List.range 16).all (assumedLimits b) = true ↔ ∀ m ∈ membersOf b,
    field b (14 + 6 * m) 2 ≤ 480 ∧ field b (16 + 6 * m) 2 ≤ 480 ∧ field b (18 + 6 * m) 2 ≤ 2000 := by
  simp only [List.all_eq_true, membersOf, List.mem_filter]
  refine forall_congr' fun m => ?_
  rw [and_imp]
  refine imp_congr_right fun _ => ?_
  rw [show 16 + 6 * m = 14 + 6 * m + 2 by omega, show 18 + 6 * m = 14 + 6 * m + 4 by omega]
  simp only [assumedLimits, Bool.or_eq_true, Bool.not_eq_true', Bool.and_eq_true, decide_eq_true_eq, ← Bool.not_eq_true,
    ← Decidable.imp_iff_not_or, and_assoc]

theorem zoneLimits_iff (b : List Byte) (z : Nat) : zoneLimits b z = true ↔ byteAt b (128 + 7 * z + 6) = 0 ∨
    (1 ≤ byteAt b (128 + 7 * z + 6) ∧ byteAt b (128 + 7 * z + 6) ≤ 16) ∧
      field b (128 + 7 * z) 3 < field b (128 + 7 * z + 3) 3 ∧ field b (128 + 7 * z + 3) 3 ≤ 200000 := by
  simp only [zoneLimits, Bool.or_eq_true, Bool.and_eq_true, beq_iff_eq, decide_eq_true_eq, inLimits_eq_true_iff, and_assoc]

theorem channelLimits_iff (b : List Byte) (k : Nat) : channelLimits b k = true ↔ let o := 166 + 11 * k
    byteAt b o = 0 ∨ ((1 ≤ byteAt b o ∧ byteAt b o ≤ 3) ∧ byteAt b (o + 1) ≤ 3 ∧ byteAt b (134 + 7 * byteAt b (o + 1)) ≠ 0 ∧
      byteAt b (o + 2) ≤ 7 ∧ (byteAt b (o + 3) = 255 ∨ byteAt b (o + 3) ≤ 7 ∧ byteAt b (o + 3) ≠ byteAt b (o + 2)) ∧
      (1 ≤ byteAt b (o + 4) ∧ byteAt b (o + 4) ≤ 80) ∧ field b (o + 7) 2 ≤ 6500 ∧ field b (o + 9) 2 ≤ 4000) := by
  simp only []
  rw [show 134 + 7 * byteAt b (166 + 11 * k + 1) = 128 + 7 * byteAt b (166 + 11 * k + 1) + 6 by omega]
  simp only [channelLimits, Bool.or_eq_true, Bool.and_eq_true, beq_iff_eq, bne_iff_ne, decide_eq_true_eq, inLimits_eq_true_iff,
    and_assoc]

theorem detLimits_iff (b : List Byte) (o hi : Nat) : detLimits b o hi = true ↔ field b o 2 ≤ field b (o + 2) 2 ∧
    field b (o + 2) 2 ≤ hi ∧ (1 ≤ byteAt b (o + 4) ∧ byteAt b (o + 4) ≤ 255) ∧ 1 ≤ byteAt b (o + 5) ∧ byteAt b (o + 5) ≤ 255 := by
  simp only [detLimits, Bool.and_eq_true, decide_eq_true_eq, inLimits_eq_true_iff, and_assoc]

theorem curveLimits_iff (b : List Byte) (i : Nat) : curveLimits b i = true ↔ field b (276 + 4 * i) 2 ≤ 32000 ∧
    field b (278 + 4 * i) 2 ≤ 1000 ∧ (0 < i → field b (272 + 4 * i) 2 < field b (276 + 4 * i) 2) := by
  rw [show 278 + 4 * i = 276 + 4 * i + 2 by omega, show 272 + 4 * i = 276 + 4 * i - 4 by omega, Nat.pos_iff_ne_zero]
  simp only [curveLimits, Bool.and_eq_true, Bool.or_eq_true, decide_eq_true_eq, beq_iff_eq, and_assoc, ne_eq, ← Classical.or_iff_not_imp_left]

theorem serviceLimits_iff (b : List Byte) (i : Nat) : serviceLimits b i = true ↔ let o := 317 + 4 * i
    byteAt b o ≤ 2 ∧ byteAt b (o + 1) ≤ 2 ∧ byteAt b (o + 2) ≤ 1 ∧ byteAt b (o + 3) ≤ 1 := by
  simp only [serviceLimits, Bool.and_eq_true, decide_eq_true_eq, and_assoc]

theorem heatPage_inRange_iff (b : List Byte) : (heatPageAt b 381).inRange = true ↔ ∀ i, i < 33 → field b (381 + 2 * i) 2 ≤ 4000 := by
  simp only [HeatPage.inRange, Bool.and_eq_true, decide_eq_true_eq, List.all_eq_true]
  simp only [heatPageAt, List.mem_map, List.mem_range, forall_exists_index, and_imp, forall_apply_eq_imp_iff₂]
  refine ⟨fun ⟨⟨pot, top⟩, bottom⟩ i hi => ?_, fun h => ⟨⟨h 0 (by decide), fun z hz => ?_⟩, fun z hz => ?_⟩⟩
  · obtain rfl | ht | hb : i = 0 ∨ (1 ≤ i ∧ i ≤ 16) ∨ 17 ≤ i := by omega
    · exact pot
    · have := top (i - 1) (by omega)
      rwa [show 381 + 2 + 2 * (i - 1) = 381 + 2 * i by omega] at this
    · have := bottom (i - 17) (by omega)
      rwa [show 381 + 34 + 2 * (i - 17) = 381 + 2 * i by omega] at this
  · have := h (z + 1) (by omega)
    rwa [show 381 + 2 * (z + 1) = 381 + 2 + 2 * z by omega] at this
  · have := h (z + 17) (by omega)
    rwa [show 381 + 2 * (z + 17) = 381 + 34 + 2 * z by omega] at this

theorem fluxPage_inRange_iff (b : List Byte) : (fluxPageAt b 447).inRange = true ↔ field b 448 2 ≤ 1000 ∧ field b 450 2 ≤ 1000 ∧
    (20 ≤ field b 452 2 ∧ field b 452 2 ≤ 2000) ∧ (5 ≤ byteAt b 454 ∧ byteAt b 454 ≤ 200) ∧ 1 ≤ byteAt b 455 ∧ byteAt b 456 ≤ 50 := by
  simp only [FluxPage.inRange, Bool.and_eq_true, decide_eq_true_eq, and_assoc]
  rfl

/-- The limits of R207 over an image's bytes. -/
def Limits (b : List Byte) : Prop :=
  let n := field b
  let within := fun lo o k hi => lo ≤ n o k ∧ n o k ≤ hi
  let members := membersOf b
  within 0 6 1 63 ∧ within 1 7 1 3 ∧ within 0 8 1 15 ∧
  (∀ o ∈ [9, 10], n o 1 ≤ 15 ∨ n o 1 = 255) ∧ 2 ≤ members.length ∧ members.length ≤ 12 ∧
  within 0 13 1 15 ∧
  (∀ m ∈ members, within 0 (14 + 6 * m) 2 480 ∧ within 0 (16 + 6 * m) 2 480 ∧
    within 0 (18 + 6 * m) 2 2000) ∧
  within 1 110 3 200000 ∧ (∀ o ∈ [113, 122, 156, 159], within 0 o 3 200000) ∧
  (∀ o ∈ [116, 118, 120, 125, 162, 164], within 0 o 2 50000) ∧ n 162 2 ≤ n 159 3 ∧
  (∀ z, z < 4 → let o := 128 + 7 * z
    n (o + 6) 1 = 0 ∨ (within 1 (o + 6) 1 16 ∧ n o 3 < n (o + 3) 3 ∧ n (o + 3) 3 ≤ 200000)) ∧
  (∀ k, k < 6 → let o := 166 + 11 * k
    n o 1 = 0 ∨ (within 1 o 1 3 ∧ within 0 (o + 1) 1 3 ∧ n (134 + 7 * n (o + 1) 1) 1 ≠ 0 ∧
      within 0 (o + 2) 1 7 ∧ (n (o + 3) 1 = 255 ∨ n (o + 3) 1 ≤ 7 ∧ n (o + 3) 1 ≠ n (o + 2) 1) ∧
      within 1 (o + 4) 1 80 ∧ within 0 (o + 7) 2 6500 ∧ within 0 (o + 9) 2 4000)) ∧
  (∀ x ∈ [(232, 4000), (238, 2000)], n x.1 2 ≤ n (x.1 + 2) 2 ∧ n (x.1 + 2) 2 ≤ x.2 ∧
    within 1 (x.1 + 4) 1 255 ∧ within 1 (x.1 + 5) 1 255) ∧
  within 0 244 2 4000 ∧ within 1 246 2 7200 ∧
  (∀ o ∈ [249, 251, 253, 255, 257], within 0 o 2 1000) ∧ n 253 2 < n 251 2 ∧ n 251 2 < n 249 2 ∧
  n 255 2 < n 257 2 ∧ n 257 2 ≤ n 249 2 ∧ within 1 259 1 100 ∧ within 1 260 1 60 ∧
  within 1 261 2 1000 ∧ (∀ o ∈ [263, 265, 267], within 0 o 2 2000) ∧ within 0 269 1 60 ∧
  within 5 270 2 600 ∧ (∀ o ∈ [272, 274], within 0 o 2 5000) ∧ n 272 2 < n 274 2 ∧
  (∀ i, i < 8 → within 0 (276 + 4 * i) 2 32000 ∧ within 0 (278 + 4 * i) 2 1000 ∧
    (0 < i → n (272 + 4 * i) 2 < n (276 + 4 * i) 2)) ∧
  within 0 316 1 7 ∧
  (∀ i, i < 16 → let o := 317 + 4 * i
    within 0 o 1 2 ∧ within 0 (o + 1) 1 2 ∧ within 0 (o + 2) 1 1 ∧ within 0 (o + 3) 1 1) ∧
  (∀ i, i < 33 → within 0 (381 + 2 * i) 2 4000) ∧
  within 0 448 2 1000 ∧ within 0 450 2 1000 ∧ within 20 452 2 2000 ∧ within 5 454 1 200 ∧
  within 1 455 1 255 ∧ within 0 456 1 50 ∧ within 0 459 1 1 ∧
  within 10 460 2 2000 ∧ within 500 462 2 2000

theorem numberOrNone_iff (n : Nat) : numberOrNone n = true ↔ n ≤ 15 ∨ n = 255 := by
  rw [numberOrNone, Bool.or_eq_true, decide_eq_true_eq, beq_iff_eq]

theorem limitsOk_iff (b : List Byte) : limitsOk b = true ↔ Limits b := by
  simp only [limitsOk, limitsFront, limitsBack, assumedLimits_iff, Bool.and_eq_true]
  simp only [decide_eq_true_eq, inLimits_eq_true_iff,
    numberOrNone_iff, memberCount_eq, detLimits_iff, heatPage_inRange_iff, fluxPage_inRange_iff, List.all_eq_true, List.mem_range,
    zoneLimits_iff, channelLimits_iff, curveLimits_iff, serviceLimits_iff]
  simp only [Limits, field_one, List.forall_mem_cons, List.not_mem_nil, false_imp_iff, implies_true, Nat.zero_le, true_and, and_true]
  simp only [and_assoc, byteAt_le, true_and]
  constructor
  · rintro ⟨a6, a7, a7', a8, a9, a10, m, m', a13, loads, f110, f110', f113, f116, f118, f120, f122, f125, zones, f156, f159, lead, f162,
      f164, back⟩
    exact ⟨a6, a7, a7', a8, a9, a10, m, m', a13, loads, f110, f110', f113, f122, f156, f159, f116, f118, f120, f125, f162, f164, lead,
      zones, back⟩
  · rintro ⟨a6, a7, a7', a8, a9, a10, m, m', a13, loads, f110, f110', f113, f122, f156, f159, f116, f118, f120, f125, f162, f164, lead,
      zones, back⟩
    exact ⟨a6, a7, a7', a8, a9, a10, m, m', a13, loads, f110, f110', f113, f116, f118, f120, f122, f125, zones, f156, f159, lead, f162,
      f164, back⟩

/-! ### The agreement (R22) -/

/-- The agreement of an image's fields with one another and with the station number (R22). -/
def Agrees (me : Nat) (b : List Byte) : Prop :=
  let n := field b
  let members := membersOf b
  let has := fun i => (n 6 1).testBit i = true
  me ∈ members ∧ n 8 1 ∉ members ∧ (has 0 → n 10 1 = 255 → members.length ≤ 1) ∧
  (¬has 0 → n 9 1 ≠ 255) ∧ (∀ o ∈ [9, 10], n o 1 ≠ 255 → n o 1 ≠ me ∧ n o 1 ∈ members) ∧
  (¬has 4 → n 13 1 ≠ me ∧ n 13 1 ∈ members) ∧
  (∀ k, k < 6 → (n (166 + 11 * k) 1 = 3 → has 3) ∧
    (n (166 + 11 * k) 1 = 1 ∨ n (166 + 11 * k) 1 = 2 → has 2))

/-- A neighbour's field holds a station number or 255. -/
theorem stationAt_cases {b : List Byte} {i : Nat} (h : byteAt b i ≤ 15 ∨ byteAt b i = 255) :
    (byteAt b i = 255 ∧ stationAt b i = none) ∨ (byteAt b i ≠ 255 ∧ stationAt b i = some (byteAt b i)) := by
  unfold stationAt
  obtain h | h := h
  · exact .inr ⟨by omega, if_pos h⟩
  · exact .inl ⟨h, if_neg (by omega)⟩

theorem neighbourOk_iff {b : List Byte} {i : Nat} (me : Nat) (h : byteAt b i ≤ 15 ∨ byteAt b i = 255) :
    neighbourOk (imageOf b) me (stationAt b i) = true ↔
      (byteAt b i ≠ 255 → byteAt b i ≠ me ∧ byteAt b i ∈ membersOf b) := by
  obtain ⟨hn, e⟩ | ⟨hn, e⟩ := stationAt_cases h
  · rw [e]; exact ⟨fun _ g => absurd hn g, fun _ => rfl⟩
  · rw [e, neighbourOk, Bool.and_eq_true, bne_iff_ne, member_imageOf]
    exact ⟨fun g _ => g, fun g => g hn⟩

theorem channelAgrees_iff (b : List Byte) (k : Nat) : channelAgrees (imageOf b) (channelAt b k) = true ↔
    (byteAt b (166 + 11 * k) = 3 → (byteAt b 6).testBit 3 = true) ∧
    (byteAt b (166 + 11 * k) = 1 ∨ byteAt b (166 + 11 * k) = 2 → (byteAt b 6).testBit 2 = true) := by
  have fn : (channelAt b k).fn = channelFunction (byteAt b (166 + 11 * k)) := rfl
  unfold channelAgrees
  rw [fn]
  generalize byteAt b (166 + 11 * k) = c
  by_cases h1 : c = 1
  · subst h1; exact ⟨fun h => ⟨nofun, fun _ => h⟩, fun h => h.2 (.inl rfl)⟩
  · by_cases h2 : c = 2
    · subst h2; exact ⟨fun h => ⟨nofun, fun _ => h⟩, fun h => h.2 (.inr rfl)⟩
    · by_cases h3 : c = 3
      · subst h3; exact ⟨fun h => ⟨fun _ => h, fun g => absurd g (by decide)⟩, fun h => h.1 rfl⟩
      · have none : channelFunction c = .unused := by simp [channelFunction, h1, h2, h3]
        rw [none]
        exact ⟨fun _ => ⟨fun g => absurd g h3, fun g => absurd g (by omega)⟩, fun _ => rfl⟩

theorem agreementOk_iff {b : List Byte} (me : Nat) (h9 : byteAt b 9 ≤ 15 ∨ byteAt b 9 = 255)
    (h10 : byteAt b 10 ≤ 15 ∨ byteAt b 10 = 255) : agreementOk (imageOf b) me = true ↔ Agrees me b := by
  have entry : (imageOf b).functions.entry = (byteAt b 6).testBit 0 := rfl
  have hood : (imageOf b).functions.hood = (byteAt b 6).testBit 4 := rfl
  have panel : (imageOf b).panel = byteAt b 8 := rfl
  have cover : (imageOf b).cover = byteAt b 13 := rfl
  have count : memberCount (imageOf b).members = (membersOf b).length := memberCount_eq b
  have upstream : (stationAt b 9).isSome = true ↔ byteAt b 9 ≠ 255 := by
    obtain ⟨hn, e⟩ | ⟨hn, e⟩ := stationAt_cases h9
    · rw [e]; exact ⟨nofun, fun g => absurd hn g⟩
    · rw [e]; exact ⟨fun _ => hn, fun _ => rfl⟩
  have downstream : (stationAt b 10).isNone = true ↔ byteAt b 10 = 255 := by
    obtain ⟨hn, e⟩ | ⟨hn, e⟩ := stationAt_cases h10
    · rw [e]; exact ⟨fun _ => hn, fun _ => rfl⟩
    · rw [e]; exact ⟨nofun, fun g => absurd g hn⟩
  have channels : (imageOf b).channels.all (channelAgrees (imageOf b)) = true ↔ ∀ k, k < 6 →
      (byteAt b (166 + 11 * k) = 3 → (byteAt b 6).testBit 3 = true) ∧
      (byteAt b (166 + 11 * k) = 1 ∨ byteAt b (166 + 11 * k) = 2 → (byteAt b 6).testBit 2 = true) := by
    rw [show (imageOf b).channels = (List.range 6).map (channelAt b) from rfl, List.all_map, List.all_eq_true]
    exact forall_congr' fun k => by rw [List.mem_range, Function.comp, channelAgrees_iff]
  have lonely : (!((imageOf b).functions.entry && (imageOf b).downstream.isNone && decide (1 < memberCount (imageOf b).members))) =
      true ↔ ((byteAt b 6).testBit 0 = true → byteAt b 10 = 255 → (membersOf b).length ≤ 1) := by
    rw [Bool.not_eq_true', ← Bool.not_eq_true, Bool.and_eq_true, Bool.and_eq_true, decide_eq_true_eq, entry, count,
      show (imageOf b).downstream = stationAt b 10 from rfl, downstream, not_and, and_imp, Nat.not_lt]
  unfold agreementOk
  simp only [Bool.and_eq_true]
  rw [lonely, channels, Bool.or_eq_true, Bool.or_eq_true, Bool.and_eq_true, bne_iff_ne, Bool.not_eq_true', ← Bool.not_eq_true,
    member_imageOf, member_imageOf, member_imageOf, entry, hood, panel, cover, show (imageOf b).upstream = stationAt b 9 from rfl,
    show (imageOf b).downstream = stationAt b 10 from rfl, upstream, neighbourOk_iff me h9, neighbourOk_iff me h10,
    Classical.or_iff_not_imp_left, Classical.or_iff_not_imp_left]
  simp only [Agrees, field_one, List.forall_mem_cons, List.not_mem_nil, false_imp_iff, implies_true, and_true, and_assoc]

/-- What the checks make of a copy (R21). -/
theorem judgeImage_passes_iff (me : Nat) (b : List Byte) : (judgeImage me (some b)).2 = true ↔ Limits b ∧ Agrees me b := by
  change (limitsOk b && agreementOk (imageOf b) me) = true ↔ _
  rw [Bool.and_eq_true, limitsOk_iff]
  refine and_congr_right fun h => ?_
  have h9 := h.2.2.2.1 9 (by simp)
  have h10 := h.2.2.2.1 10 (by simp)
  rw [field_one] at h9 h10
  exact agreementOk_iff me h9 h10

/-- A passed image is read from a copy, and its station is not the panel (R21, R22). -/
theorem numberOk_of_passes {me : Nat} {r : Option (List Byte)} {img : Image} (h : judgeImage me r = (some img, true)) :
    numberOk img me = true := by
  cases r with
  | none => exact absurd h nofun
  | some b =>
    obtain ⟨e, passes⟩ := Prod.mk.inj h
    obtain rfl := Option.some.inj e
    obtain ⟨-, member, other, -⟩ := (judgeImage_passes_iff me b).mp passes
    unfold numberOk
    rw [bne_iff_ne]
    intro same
    rw [field_one] at other
    have named : me = byteAt b 8 := same
    exact other (named ▸ member)

/-! ### STRAP_SAMPLE and the end of LOADING (R19, R23 to R25) -/

/-- Every block as the entry to JOINING from LOADING leaves it, before its STATUS (R25). -/
def joined (img : Image) (s : State) : State := startGrace (takeTanks (startPeriods (joiningBlocks img s)))

theorem joined_eq (img : Image) (s : State) : ∃ g z lo em, joined img s = { startPeriods (joiningBlocks img s) with
    fume := { (startPeriods (joiningBlocks img s)).fume with grace := g, graceZero := z }
    flux := { (startPeriods (joiningBlocks img s)).flux with low := lo, empty := em } } := by
  unfold joined startGrace takeTanks
  split <;> split <;> exact ⟨_, _, _, _, rfl⟩

theorem loadingEnds_passes {img : Image} {me : Nat} {s : State} (h : numberOk img me = true) :
    loadingEnds (some img, true) me s = finish (queueStatus true (joined img s)) := by
  unfold loadingEnds
  simp only [if_true, h]
  rfl

/-- What the entry to JOINING leaves, after what ends the command. -/
theorem finish_joined (img : Image) (s : State) : let t := finish (queueStatus true (joined img s))
    t.loader = { s.loader with station := .joining, image := some img, imageOk := true, roundCount := 0 } ∧
    t.allot.roundAge = some 0 ∧ t.pos.entryS = ⟨s.pins.entry, none⟩ ∧ t.pos.exitS = ⟨s.pins.exitS, none⟩ ∧
    t.heat.channels = img.channels.map Channel.cold ∧ t.pot.check = if img.functions.pot then some 0 else none := by
  obtain ⟨g, z, lo, em, e⟩ := joined_eq img s
  have entryS : (queueStatus true (joined img s)).pos.entryS = (joined img s).pos.entryS :=
    congrArg (·.pos.entryS) (offAlarm_queueStatus true (joined img s))
  have exitS : (queueStatus true (joined img s)).pos.exitS = (joined img s).pos.exitS :=
    congrArg (·.pos.exitS) (offAlarm_queueStatus true (joined img s))
  have pot : (queueStatus true (joined img s)).pot = (joined img s).pot :=
    congrArg (·.pot) (offAlarm_queueStatus true (joined img s))
  simp only [finish_loader, finish_allot, finish_entryS, finish_exitS, finish_channels, finish_check, queueStatus_loader,
    queueStatus_allot, queueStatus_heat, entryS, exitS, pot]
  rw [e]
  exact ⟨rfl, rfl, rfl, rfl, rfl, rfl⟩

/-- The STATUS of the entry to JOINING waits with its start mark, room given (R25). -/
theorem joining_status_waits (img : Image) (s : State) (h : s.link.queue.length < 12) :
    ∃ e f, e ∈ (enterJoining img s).link.queue ∧ e.inTx = false ∧ e.target = allTarget ∧ e.body = .status f ∧
      f.station = .joining ∧ f.startMark = true := by
  obtain ⟨g, z, lo, em, eq⟩ := joined_eq img s
  have link : (joined img s).link = s.link := by rw [eq]; rfl
  have station : (joined img s).loader.station = .joining := by rw [eq]; rfl
  obtain ⟨e, waits, tx, target, mark, body, -, -⟩ := queueStatus_waits (s := joined img s) true (by rw [link]; exact h)
  exact ⟨e, _, waits, tx, target, body, station, rfl⟩

/-- A failed check leads into CONFIG FAULT (R24). -/
theorem loadingEnds_fails {j : Option Image × Bool} {me : Nat} {s : State} (h : j.2 = false) :
    ∃ img, loadingEnds j me s = enterConfigFault img false s := by
  unfold loadingEnds
  cases j.1 with
  | none => exact ⟨none, rfl⟩
  | some img => exact ⟨some img, if_neg (by simp [h])⟩

theorem enterConfigFault_holds (img : Option Image) (ok : Bool) (s : State) :
    (enterConfigFault img ok s).loader = { s.loader with station := .configFault, image := img, imageOk := ok } ∧
    (enterConfigFault img ok s).link.statusAge = some 0 := by
  refine ⟨?_, rfl⟩
  exact enqueue_loader ..

theorem strapSample_waits {p : BitVec 4} {l : Loader} (hs : l.station = .loading) (hn : l.number = none) :
    l.strapSample p = { l with number := if l.strapPrev = some p then some p.toNat else none, strapPrev := some p } := by
  unfold Loader.strapSample
  rw [if_pos ⟨hs, hn⟩]
  split
  · rfl
  · rw [← hn]

theorem strapSample_ignored {p : BitVec 4} {l : Loader} (h : l.station ≠ .loading ∨ l.number ≠ none) : l.strapSample p = l := by
  unfold Loader.strapSample
  exact if_neg fun ⟨hs, hn⟩ => h.elim (· hs) (· hn)

theorem exec_startImageReadComplete {first second : List Byte} {me : Nat} {s : State} (hs : s.loader.station = .loading)
    (hn : s.loader.number = some me) : exec (.startImageReadComplete first second) s =
      .next (loadingEnds (judgeImage me (readImage first second)) me s) := by
  refine (if_pos hs).trans ?_
  rw [hn]

end Sys2Proof.Machine
end
section
open Sys2Proof Sys2Proof.Machine

/-- Settles O5: the samples, the two ways out of LOADING, the copy that is kept, and its checks. -/
theorem loadingEnds : Obligations.LoadingEnds := by
  unfold Obligations.LoadingEnds
  refine ⟨⟨fun p s hs hn => ⟨_, rfl, ?_⟩, fun p s h => ?_⟩, fun first second me s hs hn => ⟨fun img hj => ?_, fun hj => ?_⟩,
    readImage_iff, fun me => rfl, fun me b => ⟨rfl, judgeImage_passes_iff me b⟩⟩
  · have sampled := strapSample_waits (p := p) hs hn
    refine ⟨congrArg (·.strapPrev) sampled, (congrArg (·.station) sampled).trans hs, congrArg (·.number) sampled, rfl⟩
  · change Host.Outcome.next { s with loader := s.loader.strapSample p, pins := { s.pins with straps := p } } = _
    rw [strapSample_ignored h]
  · have passes := loadingEnds_passes (s := s) (numberOk_of_passes hj)
    obtain ⟨loader, roundAge, entryS, exitS, channels, check⟩ := finish_joined img s
    refine ⟨_, exec_startImageReadComplete hs hn, ?_⟩
    rw [hj, passes]
    refine ⟨congrArg (·.station) loader, congrArg (·.image) loader, (congrArg (·.number) loader).trans hn,
      congrArg (·.roundCount) loader, roundAge, entryS, exitS, channels, check, rfl, fun hq => ?_⟩
    exact joining_status_waits img s hq
  · obtain ⟨img, fails⟩ := loadingEnds_fails (me := me) (s := s) hj
    obtain ⟨loader, age⟩ := enterConfigFault_holds img false s
    refine ⟨_, exec_startImageReadComplete hs hn, ?_⟩
    rw [fails]
    exact ⟨congrArg (·.station) loader, congrArg (·.imageOk) loader, age⟩
end
